-- ==== Sys2Proof/Word.lean ====
section
/-! DEFINITION. The words of the Elwox AW3 and the names by which its parts are counted: lanes, rows,
sides, channels, ports and probes (spec/00_scope.md, sections 2.2 and 2.4), with the plain records that
hold one value for each of them. Nothing here carries a rule of the manual. -/

namespace Sys2Proof

/-- A byte of a frame, a record or a reply. -/
abbrev Byte := BitVec 8
/-- A sample word, a conversion or a status word of the scan link (R11). -/
abbrev Word16 := BitVec 16
/-- A scan number, a seconds count or a calibration generation: 32 bits, wrapping (R1, R2). -/
abbrev Word32 := BitVec 32
/-- An instant in fine units of 1/16 scan, kept modulo 2^32 × 16 (section 2.2 of the scope file). -/
abbrev Instant := BitVec 36

/-- The three lanes, lane 1 nearest the verge. -/
inductive Lane where
  | one | two | three
deriving DecidableEq, Repr

/-- The two sensor rows of a lane: U upstream, D downstream. -/
inductive Row where
  | u | d
deriving DecidableEq, Repr

/-- The two half-lane sensors of a row. -/
inductive Side where
  | left | right
deriving DecidableEq, Repr

/-- One half-lane sensor and its conditioner. -/
structure Channel where
  lane : Lane
  row  : Row
  side : Side
deriving DecidableEq, Repr

/-- The three site ports. -/
inductive Port where
  | a | b | c
deriving DecidableEq, Repr

/-- The four pavement probes. -/
inductive Probe where
  | p0 | p1 | p2 | p3
deriving DecidableEq, Repr

/-- The lane's number, 1 to 3. -/
def Lane.number : Lane → Nat
  | .one => 1 | .two => 2 | .three => 3

/-- The lane of a number. -/
def Lane.ofNumber? : Nat → Option Lane
  | 1 => some .one | 2 => some .two | 3 => some .three | _ => none

/-- The port's number as replies give it: 1 port A, 2 port B, 3 port C. -/
def Port.number : Port → Nat
  | .a => 1 | .b => 2 | .c => 3

/-- The port of a number. -/
def Port.ofNumber? : Nat → Option Port
  | 1 => some .a | 2 => some .b | 3 => some .c | _ => none

/-- The probe's number, 0 to 3. -/
def Probe.number : Probe → Nat
  | .p0 => 0 | .p1 => 1 | .p2 => 2 | .p3 => 3

/-- The probe of a number. -/
def Probe.ofNumber? : Nat → Option Probe
  | 0 => some .p0 | 1 => some .p1 | 2 => some .p2 | 3 => some .p3 | _ => none

/-- The slot index of a scan's status word is two bits, so it always names a probe. -/
def Probe.ofBits (b : BitVec 2) : Probe :=
  match b.toNat with
  | 0 => .p0 | 1 => .p1 | 2 => .p2 | _ => .p3

/-- The next slot in the converter's order 0, 1, 2, 3, 0 (R74). -/
def Probe.succ : Probe → Probe
  | .p0 => .p1 | .p1 => .p2 | .p2 => .p3 | .p3 => .p0

/-- The other half of a row. -/
def Side.other : Side → Side
  | .left => .right | .right => .left

/-- All lanes in order. -/
def Lane.all : List Lane := [.one, .two, .three]
/-- All ports in order. -/
def Port.all : List Port := [.a, .b, .c]
/-- All probes in order. -/
def Probe.all : List Probe := [.p0, .p1, .p2, .p3]
/-- The four channels of a lane in channel order: U left, U right, D left, D right. -/
def Lane.channels (l : Lane) : List Channel :=
  [⟨l, .u, .left⟩, ⟨l, .u, .right⟩, ⟨l, .d, .left⟩, ⟨l, .d, .right⟩]
/-- All twelve channels in channel order. -/
def Channel.all : List Channel := Lane.one.channels ++ Lane.two.channels ++ Lane.three.channels

/-- channel index = (lane − 1) × 4 + row × 2 + side (section 2.4 of the scope file). -/
def Channel.index (c : Channel) : Nat :=
  (c.lane.number - 1) * 4 + (match c.row with | .u => 0 | .d => 2) + (match c.side with | .left => 0 | .right => 1)

/-- One value for each lane. -/
structure PerLane (α : Type) where
  one : α
  two : α
  three : α
deriving DecidableEq, Repr

/-- One value for each half-lane sensor of a lane. -/
structure PerHalf (α : Type) where
  uLeft  : α
  uRight : α
  dLeft  : α
  dRight : α
deriving DecidableEq, Repr

/-- One value for each port. -/
structure PerPort (α : Type) where
  a : α
  b : α
  c : α
deriving DecidableEq, Repr

/-- One value for each probe. -/
structure PerProbe (α : Type) where
  p0 : α
  p1 : α
  p2 : α
  p3 : α
deriving DecidableEq, Repr

/-- One value for each of the twelve channels. -/
abbrev PerChannel (α : Type) := PerLane (PerHalf α)

/-- The value of a lane. -/
def PerLane.get {α : Type} (v : PerLane α) : Lane → α
  | .one => v.one | .two => v.two | .three => v.three

/-- The record with a lane's value replaced. -/
def PerLane.set {α : Type} (v : PerLane α) (l : Lane) (x : α) : PerLane α :=
  match l with
  | .one => { v with one := x } | .two => { v with two := x } | .three => { v with three := x }

/-- The record with every lane's value worked by a function of the lane. -/
def PerLane.mapI {α β : Type} (f : Lane → α → β) (v : PerLane α) : PerLane β :=
  ⟨f .one v.one, f .two v.two, f .three v.three⟩

/-- The same value for every lane. -/
def PerLane.all {α : Type} (x : α) : PerLane α := ⟨x, x, x⟩

/-- The value of a half. -/
def PerHalf.get {α : Type} (v : PerHalf α) (r : Row) (sd : Side) : α :=
  match r, sd with
  | .u, .left => v.uLeft | .u, .right => v.uRight | .d, .left => v.dLeft | .d, .right => v.dRight

/-- The record with a half's value replaced. -/
def PerHalf.set {α : Type} (v : PerHalf α) (r : Row) (sd : Side) (x : α) : PerHalf α :=
  match r, sd with
  | .u, .left => { v with uLeft := x } | .u, .right => { v with uRight := x }
  | .d, .left => { v with dLeft := x } | .d, .right => { v with dRight := x }

/-- The record with every half's value worked by a function of the half. -/
def PerHalf.mapI {α β : Type} (f : Row → Side → α → β) (v : PerHalf α) : PerHalf β :=
  ⟨f .u .left v.uLeft, f .u .right v.uRight, f .d .left v.dLeft, f .d .right v.dRight⟩

/-- The same value for every half. -/
def PerHalf.all {α : Type} (x : α) : PerHalf α := ⟨x, x, x, x⟩

/-- The value of a port. -/
def PerPort.get {α : Type} (v : PerPort α) : Port → α
  | .a => v.a | .b => v.b | .c => v.c

/-- The record with a port's value replaced. -/
def PerPort.set {α : Type} (v : PerPort α) (p : Port) (x : α) : PerPort α :=
  match p with
  | .a => { v with a := x } | .b => { v with b := x } | .c => { v with c := x }

/-- The record with every port's value worked by a function of the port. -/
def PerPort.mapI {α β : Type} (f : Port → α → β) (v : PerPort α) : PerPort β :=
  ⟨f .a v.a, f .b v.b, f .c v.c⟩

/-- The same value for every port. -/
def PerPort.all {α : Type} (x : α) : PerPort α := ⟨x, x, x⟩

/-- The value of a probe. -/
def PerProbe.get {α : Type} (v : PerProbe α) : Probe → α
  | .p0 => v.p0 | .p1 => v.p1 | .p2 => v.p2 | .p3 => v.p3

/-- The record with a probe's value replaced. -/
def PerProbe.set {α : Type} (v : PerProbe α) (p : Probe) (x : α) : PerProbe α :=
  match p with
  | .p0 => { v with p0 := x } | .p1 => { v with p1 := x }
  | .p2 => { v with p2 := x } | .p3 => { v with p3 := x }

/-- The record with every probe's value worked by a function of the probe. -/
def PerProbe.mapI {α β : Type} (f : Probe → α → β) (v : PerProbe α) : PerProbe β :=
  ⟨f .p0 v.p0, f .p1 v.p1, f .p2 v.p2, f .p3 v.p3⟩

/-- The same value for every probe. -/
def PerProbe.all {α : Type} (x : α) : PerProbe α := ⟨x, x, x, x⟩

/-- The value of a channel. -/
abbrev getCh {α : Type} (v : PerChannel α) (c : Channel) : α := (v.get c.lane).get c.row c.side

/-- The record with a channel's value replaced. -/
abbrev setCh {α : Type} (v : PerChannel α) (c : Channel) (x : α) : PerChannel α :=
  v.set c.lane ((v.get c.lane).set c.row c.side x)

/-- The record with every channel's value worked by a function of the channel. -/
abbrev mapCh {α β : Type} (f : Channel → α → β) (v : PerChannel α) : PerChannel β :=
  v.mapI fun l h => h.mapI fun r sd x => f ⟨l, r, sd⟩ x

/-- The cause of a start-up, kept until the next and reported by IDENTIFY (R171). -/
inductive StartCause where
  | power | supplyDip | resetLine | restartRequest
deriving DecidableEq, Repr

/-- The start cause's code (chapter 10, enumerations). -/
def StartCause.code : StartCause → Nat
  | .power => 0 | .supplyDip => 1 | .resetLine => 2 | .restartRequest => 3

end Sys2Proof
end

