-- ==== Sys2Proof/Syntax.lean ====
section
/-! DEFINITION. The commands of the block: one constructor per row of spec/opcode_table.json, in the
table's order. The table gives the rows no fields; the operands are what the row's rules read from outside.
A request carries the port its frame came on, the frame's destination byte and its payload bytes (R159, R183). -/

namespace Sys2Proof

/-- One step of the processor, whole and indivisible (95_what_each_step_holds.md). -/
inductive Instr where
  /-- START_UP (R175): the processor starts with the given cause. -/
  | startUp (cause : StartCause)
  /-- SITE_TIME_ADVANCE (R1): the microsecond accumulator overflowed. -/
  | siteTimeAdvance
  /-- SCAN_STROBE (R2): the scan accumulator overflowed; `loops` are the six loop-presence inputs, bit n − 1 input n. -/
  | scanStrobe (loops : BitVec 6)
  /-- HOLDOVER_TIMER_EXPIRY (R4). -/
  | holdoverTimerExpiry
  /-- TIME_MARK (R5): a TIME MARK request frame completed. -/
  | timeMark (port : Port) (dest : Byte) (payload : List Byte)
  /-- TIME_MARK_EXPIRY (R5). -/
  | timeMarkExpiry
  /-- TIME_PULSE (R6, R7): a rising edge on the time-pulse line. -/
  | timePulse
  /-- TIME_SET (R9). -/
  | timeSet (port : Port) (dest : Byte) (payload : List Byte)
  /-- LINK_ARRIVAL (R12): one word (wide mode) or one half (narrow mode, its low 8 bits) with its tag. -/
  | linkArrival (tagged : Bool) (value : Word16)
  /-- LINK_SILENCE (R14). -/
  | linkSilence
  /-- ACQUIRE_COMPLETE (R27). -/
  | acquireComplete (ch : Channel)
  /-- RECOVER_COMPLETE (R33). -/
  | recoverComplete (ch : Channel)
  /-- PULSE_END (R34). -/
  | pulseEnd (ch : Channel)
  /-- PULSE_ABANDONED (R30). -/
  | pulseAbandoned (ch : Channel)
  /-- HALF_WINDOW_END (R47): the window of the half in this channel's slot. -/
  | halfWindowEnd (ch : Channel)
  /-- UPSTREAM_EXPIRY (R55). -/
  | upstreamExpiry (lane : Lane)
  /-- LOOP_CHANGE (R91). -/
  | loopChange (lane : Lane)
  /-- LOOP_FAULT_ENTRY (R92). -/
  | loopFaultEntry (lane : Lane)
  /-- LANE_MODE (R93). -/
  | laneMode (port : Port) (dest : Byte) (payload : List Byte)
  /-- CLOSE_TIMER_EXPIRY (R98). -/
  | closeTimerExpiry (lane : Lane)
  /-- TRIGGER_PULSE_END (R116). -/
  | triggerPulseEnd (lane : Lane)
  /-- PROBE_READING (R75). -/
  | probeReading (probe : Probe)
  /-- PROBE_STALE (R80). -/
  | probeStale (probe : Probe)
  /-- LANE_TEMP_LOST (R82). -/
  | laneTempLost (lane : Lane)
  /-- READ_TEMPERATURES (R89). -/
  | readTemperatures (port : Port) (dest : Byte) (payload : List Byte)
  /-- DRIFT_APPLICATION_TAKEN (R126). -/
  | driftApplicationTaken (lane : Lane)
  /-- DRIFT_APPLY (R127); `key` is the level of the calibration-enable line. -/
  | driftApply (port : Port) (dest : Byte) (payload : List Byte) (key : Bool)
  /-- DRIFT_RESET (R128); `key` is the level of the calibration-enable line. -/
  | driftReset (port : Port) (dest : Byte) (payload : List Byte) (key : Bool)
  /-- READ_DRIFT (R130). -/
  | readDrift (port : Port) (dest : Byte) (payload : List Byte)
  /-- START_RUN (R132). -/
  | startRun (port : Port) (dest : Byte) (payload : List Byte)
  /-- ACCEPT_PASS (R134). -/
  | acceptPass (port : Port) (dest : Byte) (payload : List Byte)
  /-- REJECT_PASS (R135). -/
  | rejectPass (port : Port) (dest : Byte) (payload : List Byte)
  /-- RUN_PENDING_TIMEOUT (R135). -/
  | runPendingTimeout
  /-- RUN_ARMED_TIMEOUT (R136). -/
  | runArmedTimeout
  /-- READ_RUN (R137). -/
  | readRun (port : Port) (dest : Byte) (payload : List Byte)
  /-- APPLY_RUN (R138). -/
  | applyRun (port : Port) (dest : Byte) (payload : List Byte)
  /-- END_RUN (R139). -/
  | endRun (port : Port) (dest : Byte) (payload : List Byte)
  /-- RECORD_COMMIT (R143): a grant of the store engine to the record commit. -/
  | recordCommit
  /-- PORT_GRANT_EXECUTE (R166): a grant to the port the arbiter chooses; `key` is the level of the calibration-enable line. -/
  | portGrantExecute (key : Bool)
  /-- READ_RECORDS (R149). -/
  | readRecords (port : Port) (dest : Byte) (payload : List Byte)
  /-- RELEASE (R150). -/
  | release (port : Port) (dest : Byte) (payload : List Byte)
  /-- SET_FILTER (R151). -/
  | setFilter (port : Port) (dest : Byte) (payload : List Byte)
  /-- SEEK (R152). -/
  | seek (port : Port) (dest : Byte) (payload : List Byte)
  /-- READ_STATUS (R170). -/
  | readStatus (port : Port) (dest : Byte) (payload : List Byte)
  /-- IDENTIFY (R171). -/
  | identify (port : Port) (dest : Byte) (payload : List Byte)
  /-- CLEAR_ATTENTION (R169). -/
  | clearAttention (port : Port) (dest : Byte) (payload : List Byte)
  /-- SET_ATTENTION_ENABLES (R168). -/
  | setAttentionEnables (port : Port) (dest : Byte) (payload : List Byte)
  /-- RESTART (R172). -/
  | restart (port : Port) (dest : Byte) (payload : List Byte)
  /-- UNKNOWN_REQUEST (R166): a request frame whose code the unit does not know. -/
  | unknownRequest (port : Port) (dest : Byte) (code : Byte) (payload : List Byte)
  /-- FRAME_CRC_ERROR (R162): a completed frame, its CRC bytes included, whose CRC disagrees. -/
  | frameCrcError (port : Port) (frame : List Byte)
  /-- OTHER_UNIT_REPLY (R162): a good frame whose first byte carries the reply mark. -/
  | otherUnitReply (port : Port) (first : Byte) (status : Byte) (payload : List Byte)
  /-- FRAME_NOT_ADDRESSED (R165): a good request frame for no one here. -/
  | frameNotAddressed (port : Port) (dest : Byte) (code : Byte) (payload : List Byte)
  /-- FRAMING_ERROR (R161): the frame's bytes so far, ended by a low stop bit or by a length above 1,024. -/
  | framingError (port : Port) (bytes : List Byte) (lowStop : Bool)
  /-- FRAME_GAP_TIMEOUT (R161): the frame's bytes so far, ended by a gap of more than 20 bit times. -/
  | frameGapTimeout (port : Port) (bytes : List Byte)
  /-- OVERRUN (R163): a byte while the port holds a request. -/
  | overrun (port : Port) (byte : Byte)
  /-- PORT_ARMED (R160). -/
  | portArmed (port : Port)
  /-- REPLY_START (R164). -/
  | replyStart (port : Port)
  /-- REPLY_SENT (R164). -/
  | replySent (port : Port)
  /-- CLAIM_EDIT (R176). -/
  | claimEdit (port : Port) (dest : Byte) (payload : List Byte)
  /-- RELEASE_EDIT (R176). -/
  | releaseEdit (port : Port) (dest : Byte) (payload : List Byte)
  /-- EDIT_TOKEN_EXPIRY (R176). -/
  | editTokenExpiry
  /-- WRITE_SETTING (R177). -/
  | writeSetting (port : Port) (dest : Byte) (payload : List Byte)
  /-- DISCARD (R177). -/
  | discard (port : Port) (dest : Byte) (payload : List Byte)
  /-- READ_SETTING (R177). -/
  | readSetting (port : Port) (dest : Byte) (payload : List Byte)
  /-- COMMIT (R179). -/
  | commit (port : Port) (dest : Byte) (payload : List Byte)
  /-- PROGRAMMING_STEP (R181): a grant to the settings engine. -/
  | programmingStep
  /-- PROGRAMMING_WRITE_DONE (R181): the writing of a block ended; `verified` says whether it verified. -/
  | programmingWriteDone (verified : Bool)
  /-- LISTEN_BYTE_NOT_ARMED (R160): a byte in LISTEN while the port is not armed. -/
  | listenByteNotArmed (port : Port) (byte : Byte)
deriving DecidableEq, Repr

end Sys2Proof
end

