-- ==== Sys2Proof/Machine/Settings.lean ====
section
/-! DEFINITION. The settings items (R20 and the tables of sections 2.5, 3.11, 4.6, 5.8, 6.1.5, 7.5 and 8.6),
the image that holds them with the drift factors and the calibration generation (chapter 9), and the factory
defaults (R175). -/

namespace Sys2Proof.Machine

/-- A point of a breakpoint curve (R60). -/
structure Point where
  x : Int
  y : Int
deriving DecidableEq, Repr

/-- A breakpoint curve: points with ascending x (R60). -/
abbrev Curve := List Point

/-- A lane's channel FIR set: c0 the outermost pair of taps, c5 the centre tap (R23). -/
structure Fir where
  c0 : Int
  c1 : Int
  c2 : Int
  c3 : Int
  c4 : Int
  c5 : Int
deriving DecidableEq, Repr

/-- The items of one channel: gain (R61), thresholds, tail hold count and enable (section 2.5). -/
structure ChannelSettings where
  gain    : Nat
  tOn     : Nat
  tOff    : Nat
  hold    : Nat
  enabled : Bool
deriving DecidableEq, Repr

/-- **Drift mode** (section 6.1.5). -/
inductive DriftMode where
  | off | propose | auto
deriving DecidableEq, Repr

/-- **Trigger mode** (R116). -/
inductive TriggerMode where
  | off | onOpen | onSuspect | both
deriving DecidableEq, Repr

/-- **Scan link mode** (R11). -/
inductive LinkMode where
  | wide | narrow
deriving DecidableEq, Repr

/-- **Arbiter mode** (R155). -/
inductive ArbiterMode where
  | rotating | fixed
deriving DecidableEq, Repr

/-- **Line rate** (section 8.6). -/
inductive LineRate where
  | r57600 | r115200 | r460800 | r1000000 | r2000000
deriving DecidableEq, Repr

/-- **Probe map** of a lane (R83). -/
structure ProbeMap where
  primary   : Probe
  secondary : Probe
deriving DecidableEq, Repr

/-- The items of one lane. -/
structure LaneSettings where
  fir            : Fir
  rowSpacing     : Nat
  speedU         : Curve
  speedD         : Curve
  tempCurve      : Curve
  tempCorrection : Bool
  probeMap       : ProbeMap
  loopLine       : Nat
  triggerMode    : TriggerMode
  triggerWidth   : Nat
  driftMode      : DriftMode
  refClass       : Nat
  refGrossMin    : Nat
  driftTarget    : Nat
deriving DecidableEq, Repr

/-- The items of one probe (section 4.6). -/
structure ProbeSettings where
  curve  : Curve
  openT  : Nat
  shortT : Nat
deriving DecidableEq, Repr

/-- **Port privileges**: a set of READ, TIME, EDIT, LANE and RESTART (R167). -/
structure Privileges where
  read    : Bool
  time    : Bool
  edit    : Bool
  lane    : Bool
  restart : Bool
deriving DecidableEq, Repr

/-- The items of one port (section 8.6). -/
structure PortSettings where
  groupEnable : Bool
  broadcast   : Bool
  rate        : LineRate
  privileges  : Privileges
deriving DecidableEq, Repr

/-- The five limits of a class rule or of the unclassified limits, in kg (R108). -/
structure Limits where
  single : Nat
  tandem : Nat
  tridem : Nat
  multi  : Nat
  gross  : Nat
deriving DecidableEq, Repr

/-- A spacing window, both ends inclusive, in cm (R108, R109). -/
structure SpacingWindow where
  lo : Nat
  hi : Nat
deriving DecidableEq, Repr

/-- A class rule (R108). -/
structure ClassRule where
  code     : Nat
  axles    : Nat
  windows  : List SpacingWindow
  grossMin : Option Nat
  grossMax : Option Nat
  limits   : Limits
deriving DecidableEq, Repr

/-- The items held once for the site. -/
structure SiteSettings where
  bufferOffset   : Nat
  linkMode       : LinkMode
  coincidence    : Nat
  rowAgreement   : Nat
  spikeLimit     : Nat
  closeDelay     : Nat
  splitSpacing   : Nat
  groupSpacing   : Nat
  tolerance      : Nat
  classRuleCount : Nat
  unclassified   : Limits
  autoDrift      : Bool
  arbiterMode    : ArbiterMode
  unitAddress    : Nat
  groupAddress   : Nat
  groupMask      : Nat
deriving DecidableEq, Repr

/-- Every settings item. `rules` holds class rules 1 to 32 in order. -/
structure Settings where
  channel : PerChannel ChannelSettings
  lane    : PerLane LaneSettings
  probe   : PerProbe ProbeSettings
  port    : PerPort PortSettings
  site    : SiteSettings
  rules   : List ClassRule
deriving DecidableEq, Repr

/-- An image: the settings items, the three drift factors and the calibration generation (chapter 9). -/
structure Image where
  settings   : Settings
  drift      : PerLane Nat
  generation : Word32
deriving DecidableEq, Repr

/-- A lane's speed curve of a row (R62). -/
def LaneSettings.speedCurve (l : LaneSettings) : Row → Curve
  | .u => l.speedU
  | .d => l.speedD

/-- The five limits all 0 (R108). -/
def Limits.zero : Limits := ⟨0, 0, 0, 0, 0⟩

/-- A class rule not written since factory defaults were loaded (R108). -/
def ClassRule.unused : ClassRule := ⟨0, 0, [], none, none, .zero⟩

/-- All five privileges (R167). -/
def Privileges.full : Privileges := ⟨true, true, true, true, true⟩

/-- The bits per second of a line rate (section 8.6). -/
def LineRate.bitsPerSecond : LineRate → Nat
  | .r57600 => 57600 | .r115200 => 115200 | .r460800 => 460800
  | .r1000000 => 1000000 | .r2000000 => 2000000

/-- Defaults of a channel's items (sections 2.5 and 3.11). -/
def ChannelSettings.default : ChannelSettings := ⟨0, 400, 150, 4, true⟩

/-- Defaults of a lane's items (sections 2.5, 3.11, 4.6, 5.8 and 6.1.5); loop line and probe map differ by lane. -/
def LaneSettings.default (loop : Nat) (map : ProbeMap) : LaneSettings where
  fir            := ⟨0, 64, 192, 384, 640, 1536⟩
  rowSpacing     := 3000
  speedU         := [⟨2778, 4096⟩]
  speedD         := [⟨2778, 4096⟩]
  tempCurve      := [⟨200, 4096⟩]
  tempCorrection := false
  probeMap       := map
  loopLine       := loop
  triggerMode    := .off
  triggerWidth   := 20
  driftMode      := .off
  refClass       := 1
  refGrossMin    := 20000
  driftTarget    := 6000

/-- Defaults of a probe's items (section 4.6). -/
def ProbeSettings.default : ProbeSettings := ⟨[⟨8000, -400⟩, ⟨56000, 800⟩], 2000, 63000⟩

/-- Defaults of a port's items (section 8.6). -/
def PortSettings.default : PortSettings := ⟨false, true, .r115200, .full⟩

/-- Defaults of the site items. -/
def SiteSettings.default : SiteSettings where
  bufferOffset   := 8
  linkMode       := .wide
  coincidence    := 8
  rowAgreement   := 20
  spikeLimit     := 20
  closeDelay     := 1500
  splitSpacing   := 1200
  groupSpacing   := 200
  tolerance      := 5
  classRuleCount := 0
  unclassified   := .zero
  autoDrift      := false
  arbiterMode    := .rotating
  unitAddress    := 1
  groupAddress   := 0
  groupMask      := 0

/-- Every settings item at its factory default (R175). -/
def Settings.factory : Settings where
  channel := .all (.all .default)
  lane    := ⟨.default 1 ⟨.p0, .p1⟩, .default 2 ⟨.p1, .p2⟩, .default 3 ⟨.p3, .p2⟩⟩
  probe   := .all .default
  port    := .all .default
  site    := .default
  rules   := List.replicate 32 .unused

/-- The image of the factory defaults: drift factors 4,096, generation 0 (R175). -/
def Image.factory : Image := ⟨.factory, .all 4096, 0⟩

end Sys2Proof.Machine
end

