-- ==== Sys2Proof/Machine/State.lean ====
section
/-! DEFINITION. The state of the block, block by block under the manual's short names (00_scope.md 1.3), the
reasons a step can stop, and the machine right after reset. INVENTORY.md lists every piece with its rule. -/

namespace Sys2Proof.Machine

/-- The manual names no condition in which the processor stops: what goes wrong is reported by a status, a
condition, a detail or a count. So there is no fault to raise. -/
inductive Fault where
deriving DecidableEq, Repr

/-- Reasons for which a command has no meaning in the model. -/
inductive Refusal where
  /-- Raised by an arm of exec whose command has no meaning yet; safe, since nothing is claimed of it. No arm raises it. -/
  | notModelled (mnemonic : String)
deriving DecidableEq, Repr

/-! ### Site clock SCK -/

/-- Site time: a seconds count and a microseconds count 0 to 999,999 (R1). -/
structure SiteTime where
  sec : Word32
  us  : Nat
deriving DecidableEq, Repr

/-- The time states (R4), carried in records as the time quality. -/
inductive TimeState where
  | unset | set | locked | holdover
deriving DecidableEq, Repr

/-- The pending time mark with the strobes counted since its arrival (R5). -/
structure TimeMark where
  sec     : Word32
  strobes : Nat
deriving DecidableEq, Repr

/-- The site clock (chapter 1). `scan` is the number the next strobe will carry (R2); `present` and
`strobeTime` are what the last strobe handed over (R10, R44). `holdover` is none while the timer does not run. -/
structure Clock where
  usAcc      : Word32
  scanAcc    : Word32
  time       : SiteTime
  timeState  : TimeState
  trim       : Int
  mark       : Option TimeMark
  holdover   : Option Nat
  lastError  : Int
  unmarked   : Nat
  scan       : Word32
  present    : Word32
  strobeTime : SiteTime
deriving DecidableEq, Repr

/-! ### Scan link receiver and scan buffer SLR -/

/-- The states of the link (section 1.4). -/
inductive LinkState where
  | down | aligning | running
deriving DecidableEq, Repr

/-- The words of one scan after its marker (R11). -/
structure Scan where
  samples    : PerChannel Word16
  conversion : Word16
  status     : Word16
deriving DecidableEq, Repr

/-- An entry of the scan buffer. -/
inductive Entry where
  | empty
  | fill
  | scan (d : Scan)
deriving DecidableEq, Repr

/-- The scan link receiver and its buffer (R11 to R17). `partialScan` holds the units (words, or halves in narrow
mode) of the scan being assembled; `halfMarker` a tagged half taken as the high half of a marker. -/
structure Link where
  state       : LinkState
  silence     : Nat
  buf         : List Entry
  rd          : Nat
  wr          : Nat
  occ         : Nat
  slipPending : Bool
  margin1     : Bool
  margin2     : Bool
  slips       : Nat
  partialScan : List Word16
  halfMarker  : Bool
  lastScan    : Option Scan
deriving DecidableEq, Repr

/-! ### Channel conditioners CC -/

/-- The detector states (section 2.3). -/
inductive Detector where
  | acquire | idle | pulse | tail | recover | disabled
deriving DecidableEq, Repr

/-- The committed part of the pulse accumulators (R29). -/
structure Committed where
  area    : Int
  moment  : Int
  peak    : Int
  lastOff : Nat
  sat     : Bool
  slip    : Bool
deriving DecidableEq, Repr

/-- The tentative part of the pulse accumulators (R29). -/
structure Tentative where
  area   : Int
  moment : Int
  sat    : Bool
  slip   : Bool
deriving DecidableEq, Repr

/-- The event a scan has made due at a conditioner, which the event's own command then takes. The model's own. Log 2. -/
inductive CondDue where
  | none | acquireComplete | recoverComplete | pulseEnd | abandon
deriving DecidableEq, Repr

/-- A channel conditioner (chapter 2). An empty `hist` is a history marked empty; otherwise it holds ten samples,
newest first (R24). -/
structure Conditioner where
  state     : Detector
  hist      : List Int
  b64       : Int
  acq       : Nat
  recCount  : Nat
  tail      : Nat
  startScan : Word32
  startTime : SiteTime
  com       : Committed
  ten       : Tentative
  due       : CondDue
deriving DecidableEq, Repr

/-! ### Axle formers AXF -/

/-- A pulse summary (R38). -/
structure Summary where
  ch        : Channel
  area      : Nat
  peak      : Int
  dur       : Nat
  startScan : Word32
  cf        : Nat
  centroid  : Instant
  time      : SiteTime
  sat       : Bool
  slip      : Bool
deriving DecidableEq, Repr

/-- A half-pending slot (section 3.2). -/
inductive Slot where
  | empty
  | open (m : Summary) (windowEnd : Word32)
  | waiting (m : Summary)
deriving DecidableEq, Repr

/-- A row pulse (section 3.3); `lane` is the owner lane. -/
structure RowPulse where
  lane     : Lane
  row      : Row
  instant  : Instant
  left     : Option Summary
  right    : Option Summary
  straddle : Bool
deriving DecidableEq, Repr

/-- The axle former of a lane. `upstream` is the upstream pending list, oldest first (R54). `limit` is the expiry limit E worked
out at the last strobe from the row spacing then in force (R55, R71; log 40). -/
structure AxleFormer where
  slots    : PerHalf Slot
  upstream : List RowPulse
  miss     : PerHalf Nat
  limit    : Nat
deriving DecidableEq, Repr

/-- An axle as handed to a vehicle builder (R66). `flags` are the eight axle flags of chapter 10. -/
structure Axle where
  instant    : Instant
  time       : SiteTime
  speed      : Option Nat
  left       : Nat
  right      : Nat
  wU         : Nat
  wD         : Nat
  generation : Word32
  flags      : BitVec 8
deriving DecidableEq, Repr

/-! ### Pavement temperature monitor PTM -/

/-- The class of a reading (R77). -/
inductive ReadingClass where
  | good | badOpen | badShort
deriving DecidableEq, Repr

/-- The probe states (section 4.3). -/
inductive ProbeHealth where
  | none | good | open | short | stale
deriving DecidableEq, Repr

/-- A completed reading: raw count and class (R77). -/
structure Reading where
  raw : Nat
  cls : ReadingClass
deriving DecidableEq, Repr

/-- A probe's accumulator and record (chapter 4). `f` is none while unseeded; `stale` is none while the timer does not run. -/
structure ProbeState where
  sum      : Nat
  count    : Nat
  state    : ProbeHealth
  last     : Option Reading
  f        : Option Int
  good     : Nat
  badOpen  : Nat
  badShort : Nat
  spikes   : Nat
  stale    : Option Nat
deriving DecidableEq, Repr

/-- The source of a lane temperature (R82). -/
inductive TempSource where
  | primary | secondary | siteMean | held
deriving DecidableEq, Repr

/-- The source as reported, LOST in place of HELD on a LOST lane (R82). -/
inductive ReportedSource where
  | primary | secondary | siteMean | held | lost
deriving DecidableEq, Repr

/-- A lane's temperature (R82, R84). `lostDue` is the model's own: the strobe that completes the held time has come (log 2). -/
structure LaneTemp where
  value   : Int
  source  : TempSource
  held    : Nat
  frost   : Bool
  hot     : Bool
  lostDue : Bool
deriving DecidableEq, Repr

/-- The pavement temperature monitor (chapter 4). -/
structure TempMonitor where
  slotRef  : Option Probe
  discards : Nat
  probe    : PerProbe ProbeState
  lane     : PerLane LaneTemp
deriving DecidableEq, Repr

/-! ### Vehicle builders VB and triggers TRG -/

/-- The lane modes (R93). -/
inductive LaneMode where
  | open | closed
deriving DecidableEq, Repr

/-- The states of a vehicle context (section 5.3). -/
inductive CtxState where
  | idle | open | closing | deferred
deriving DecidableEq, Repr

/-- A running timer: strobes counted and the count at which it expires. -/
structure Timer where
  count : Nat
  limit : Nat
deriving DecidableEq, Repr

/-- An axle in a vehicle with its spacing (R105). -/
structure HeldAxle where
  axle    : Axle
  spacing : Nat
deriving DecidableEq, Repr

/-- A vehicle context (section 5.3). `cont` marks a continuation of R104. -/
structure Context where
  state    : CtxState
  loopKind : Bool
  axles    : List HeldAxle
  flags    : BitVec 24
  ref      : Instant
  timer    : Option Timer
  stamp    : Word32
  openTime : SiteTime
  cont     : Bool
deriving DecidableEq, Repr

/-- The vehicle builder of a lane and its trigger. `pulse` is none while no pulse runs, and the trigger line is high
exactly while one runs (R116). -/
structure Builder where
  present      : Bool
  pend         : Nat
  went         : Option Word32
  presentCount : Nat
  loopFault    : Bool
  mode         : LaneMode
  ctx          : Context
  pulse        : Option Timer
deriving DecidableEq, Repr

/-- The verdicts (R113). -/
inductive Verdict where
  | clear | suspect | unreliable | notWeighed
deriving DecidableEq, Repr

/-- The kinds of an overload detail (R111). -/
inductive OverKind where
  | axle | group | gross
deriving DecidableEq, Repr

/-- An overload detail (R111). -/
structure Overload where
  kind   : OverKind
  index  : Nat
  excess : Nat
deriving DecidableEq, Repr

/-- An axle entry of a record (R117). -/
structure AxleEntry where
  left    : Nat
  right   : Nat
  spacing : Nat
  group   : Nat
  flags   : BitVec 8
deriving DecidableEq, Repr

/-- A sealed vehicle as the record store keeps it (R117). -/
structure Record where
  number     : Nat
  lane       : Lane
  cls        : Nat
  ruleIndex  : Option Nat
  verdict    : Verdict
  flags      : BitVec 24
  overload   : Option Overload
  time       : SiteTime
  quality    : TimeState
  generation : Word32
  speed      : Option Nat
  gross      : Nat
  temp       : Int
  source     : ReportedSource
  axles      : List AxleEntry
deriving DecidableEq, Repr

/-! ### Drift trackers DTK -/

/-- The figures of an evaluation (R123). -/
structure Evaluation where
  mean      : Nat
  ratio     : Nat
  unlimited : Nat
  limited   : Nat
deriving DecidableEq, Repr

/-- The kinds of a pending application (R125). -/
inductive AppKind where
  | proposal | reset
deriving DecidableEq, Repr

/-- A pending application (R125). -/
structure Application where
  kind  : AppKind
  value : Nat
deriving DecidableEq, Repr

/-- The drift tracker of a lane (section 6.1). -/
structure DriftTracker where
  window   : List Nat
  last     : Option Evaluation
  proposal : Option Nat
  app      : Option Application
  evals    : Nat
deriving DecidableEq, Repr

/-! ### Reference run unit RRU -/

/-- The states of the reference run unit (section 6.2). -/
inductive RunState where
  | idle | armed | pending | full
deriving DecidableEq, Repr

/-- The last result of a run (R139). -/
inductive RunResult where
  | none | timeout | applied | cancelled | aborted
deriving DecidableEq, Repr

/-- The pending pass (R133). -/
structure PendingPass where
  number : Nat
  speed  : Nat
  loads  : List Nat
  wU     : List Nat
  wD     : List Nat
deriving DecidableEq, Repr

/-- An accepted pass; `point` counts speed points from 0 (R134). -/
structure AcceptedPass where
  number : Nat
  speed  : Nat
  point  : Nat
  ratioU : Nat
  ratioD : Nat
  loads  : List Nat
deriving DecidableEq, Repr

/-- A speed point of the run: its x, the y of the lane's U and D curves at START RUN, the count of accepted passes
and the sums of their pass ratios (R132, R134, R137). -/
structure SpeedPoint where
  x     : Int
  yU    : Int
  yD    : Int
  count : Nat
  sumU  : Nat
  sumD  : Nat
deriving DecidableEq, Repr

/-- The reference run unit. The declared axle count is the length of `loads`; the timers are none while stopped. -/
structure RunUnit where
  state     : RunState
  owner     : Option Port
  lane      : Option Lane
  loads     : List Nat
  points    : List SpeedPoint
  pass      : Option PendingPass
  passes    : List AcceptedPass
  skipped   : Nat
  armed     : Option Nat
  pendTimer : Option Nat
  result    : RunResult
deriving DecidableEq, Repr

/-! ### Record store RST and arbiter SEA -/

/-- A port's filter: bit L − 1 for lane L, bit c for class c, bit v for verdict code v (R146, chapter 10). -/
structure Filter where
  lanes    : BitVec 3
  classes  : BitVec 32
  verdicts : BitVec 4
deriving DecidableEq, Repr

/-- The record store (chapter 7). Both lists are oldest first. -/
structure RecordStore where
  records : List Record
  next    : Nat
  queue   : List Record
  dropped : Nat
  cursor  : PerPort Nat
  filter  : PerPort Filter
deriving DecidableEq, Repr

/-- The members of level 1 (R154). -/
inductive Member where
  | recordCommit | settingsEngine | portGroup
deriving DecidableEq, Repr

/-- The store engine: free, or granted to one member (R153). -/
inductive Engine where
  | free
  | granted (m : Member)
deriving DecidableEq, Repr

/-- The access arbiter (R153 to R155). -/
structure Arbiter where
  last1  : Member
  last2  : Port
  engine : Engine
deriving DecidableEq, Repr

/-! ### Site ports -/

/-- The states of a site port (chapter 8). -/
inductive PortState where
  | listen | receive | execute | reply
deriving DecidableEq, Repr

/-- A site port. `rx` holds the frame being received or the request in hand; `reply` the reply frame held or sent.
`cond` are the ten attention conditions in the order of section 8.4 (bit 0 RESTARTED to bit 9 LINE_ERROR), `details`
the nine details with MARGIN1 at bit 9 and MARGIN2 at bit 10, `enables` the attention enables (R168). `bitPhase` is the part of
a bit time passed since the idle count or the reply last restarted, and `frameAge` the time since the end of the request frame in
hand, both in reference periods times the line rate (R160, R164; log 3). -/
structure SitePort where
  state         : PortState
  idle          : Nat
  frameAge      : Nat
  rx            : List Byte
  reply         : List Byte
  driving       : Bool
  sentBits      : Nat
  bitPhase      : Nat
  restarting    : Bool
  rate          : LineRate
  crcErrors     : Nat
  framingErrors : Nat
  overruns      : Nat
  cond          : BitVec 10
  details       : BitVec 11
  enables       : BitVec 10
deriving DecidableEq, Repr

/-! ### Settings store SST -/

/-- The edit token held: holder, lease count in strobes and the working copy, which exists exactly while the token is
held (R176). -/
structure EditSession where
  holder  : Port
  lease   : Nat
  working : Settings
deriving DecidableEq, Repr

/-- The programming state (R181): at a step, either ready for its grant or writing. -/
inductive Programming where
  | idle
  | ready (step : Nat) (snapshot : Image)
  | writing (step : Nat) (snapshot : Image)
deriving DecidableEq, Repr

/-- The settings state (R175). -/
inductive SettingsState where
  | valid | defaults
deriving DecidableEq, Repr

/-- The settings store (chapter 9). `nvGood` says whether the CRC-32 of the nonvolatile image agrees (log 7);
`riseLanes` are the lanes the last generation rise affected (R103, log 14). -/
structure SettingsStore where
  nv            : Image
  nvGood        : Bool
  active        : Image
  edit          : Option EditSession
  prog          : Programming
  storeFault    : Bool
  settingsState : SettingsState
  riseLanes     : PerLane Bool
deriving DecidableEq, Repr

/-- The input pins a command reads as a level: the six loop-presence inputs and the calibration-enable line. -/
structure Lines where
  loops : BitVec 6
  key   : Bool
deriving DecidableEq, Repr

/-- The whole machine, with the queue of waiting commands. -/
structure State where
  pending       : List Instr
  lines         : Lines
  sck           : Clock
  slr           : Link
  cc            : PerChannel Conditioner
  axf           : PerLane AxleFormer
  vb            : PerLane Builder
  vehicleNumber : Nat
  ptm           : TempMonitor
  dtk           : PerLane DriftTracker
  rru           : RunUnit
  rst           : RecordStore
  sea           : Arbiter
  port          : PerPort SitePort
  startCause    : StartCause
  sst           : SettingsStore
  freeCount     : Nat
deriving DecidableEq, Repr

/-! ### Reset -/

/-- Second 0, microsecond 0. -/
def SiteTime.zero : SiteTime := ⟨0, 0⟩

/-- Cleared committed accumulators (R42). -/
def Committed.clear : Committed := ⟨0, 0, 0, 0, false, false⟩

/-- Cleared tentative accumulators (R42). -/
def Tentative.clear : Tentative := ⟨0, 0, false, false⟩

/-- The site clock after start-up (R22). -/
def Clock.start : Clock where
  usAcc      := 0
  scanAcc    := 0
  time       := .zero
  timeState  := .unset
  trim       := 0
  mark       := none
  holdover   := none
  lastError  := 0
  unmarked   := 0
  scan       := 0
  present    := 0
  strobeTime := .zero

/-- The receiver and its buffer after start-up (R22). -/
def Link.start : Link where
  state       := .down
  silence     := 0
  buf         := List.replicate 16 .empty
  rd          := 0
  wr          := 0
  occ         := 0
  slipPending := false
  margin1     := false
  margin2     := false
  slips       := 0
  partialScan := []
  halfMarker  := false
  lastScan    := none

/-- A conditioner after start-up, enabled or not in the settings loaded (R42). -/
def Conditioner.start (enabled : Bool) : Conditioner where
  state     := if enabled then .acquire else .disabled
  hist      := []
  b64       := 0
  acq       := 0
  recCount  := 0
  tail      := 0
  startScan := 0
  startTime := .zero
  com       := .clear
  ten       := .clear
  due       := .none

/-- An axle former after start-up (R73; the limit before the first strobe is log 40). -/
def AxleFormer.start : AxleFormer := ⟨.all .empty, [], .all 0, 0⟩

/-- A probe after start-up (R90). -/
def ProbeState.start : ProbeState := ⟨0, 0, .none, none, none, 0, 0, 0, 0, none⟩

/-- A lane's temperature after start-up: 20.0 °C, HELD for 900 s and so LOST (R90). -/
def LaneTemp.start : LaneTemp := ⟨200, .held, 7200000, false, false, false⟩

/-- The temperature monitor after start-up (R90). -/
def TempMonitor.start : TempMonitor := ⟨none, 0, .all .start, .all .start⟩

/-- A vehicle context in IDLE (R120). -/
def Context.idle : Context := ⟨.idle, false, [], 0, 0, none, 0, .zero, false⟩

/-- A vehicle builder after start-up in the given lane mode (R120). -/
def Builder.start (mode : LaneMode) : Builder := ⟨false, 0, none, 0, false, mode, .idle, none⟩

/-- A drift tracker after start-up (R131). -/
def DriftTracker.start : DriftTracker := ⟨[], none, none, none, 0⟩

/-- The reference run unit after start-up (R140). -/
def RunUnit.start : RunUnit := ⟨.idle, none, none, [], [], none, [], 0, none, none, .none⟩

/-- The filter that matches every record (R157). -/
def Filter.all : Filter := ⟨7, BitVec.allOnes 32, 15⟩

/-- The record store after start-up (R157). -/
def RecordStore.start : RecordStore := ⟨[], 1, [], 0, .all 1, .all .all⟩

/-- The arbiter after start-up (R157). -/
def Arbiter.start : Arbiter := ⟨.portGroup, .c, .free⟩

/-- A site port after start-up at the line rate loaded: RESTARTED latched and enabled, and with defaults loaded
SITE_ALARM (bit 8) with the detail "settings invalid" (bit 8) (R174). -/
def SitePort.start (rate : LineRate) (defaults : Bool) : SitePort where
  state         := .listen
  idle          := 0
  frameAge      := 0
  rx            := []
  reply         := []
  driving       := false
  sentBits      := 0
  bitPhase      := 0
  restarting    := false
  rate          := rate
  crcErrors     := 0
  framingErrors := 0
  overruns      := 0
  cond          := if defaults then 0x101 else 0x001
  details       := if defaults then 0x100 else 0
  enables       := 0x001

/-- The settings store after a start-up that finds a stored image whose CRC does not agree (R175). -/
def SettingsStore.startDefaults : SettingsStore where
  nv            := .factory
  nvGood        := false
  active        := .factory
  edit          := none
  prog          := .idle
  storeFault    := false
  settingsState := .defaults
  riseLanes     := .all false

/-- The machine right after a power-on that finds no valid stored image (R175 and the start-up rule of each
chapter; log 6 for the stored image, log 23 for the fields the manual gives no value). -/
def State.reset : State where
  pending       := []
  lines         := ⟨0, false⟩
  sck           := .start
  slr           := .start
  cc            := .all (.all (.start true))
  axf           := .all .start
  vb            := .all (.start .closed)
  vehicleNumber := 1
  ptm           := .start
  dtk           := .all .start
  rru           := .start
  rst           := .start
  sea           := .start
  port          := .all (.start .r115200 true)
  startCause    := .power
  sst           := .startDefaults
  freeCount     := 0

end Sys2Proof.Machine
end

