-- ==== Sys2Proof/Machine/Operands.lean ====
section
/-! DEFINITION. The arithmetic words of the manual (00_scope.md 2.2, 2.3), the breakpoint curve (R60), the fields of a
payload and the bytes of a reply (00_scope.md 2.6, chapter 10), and the CRC-16 of a frame (R159). -/

namespace Sys2Proof.Machine

/-! ### Rounding, saturation and counting -/

/-- "Round half up" of a quotient of natural numbers: half the divisor is added, then the quotient is floored
(00_scope.md 2.3). -/
def roundDiv (a b : Nat) : Nat := (2 * a + b) / (2 * b)

/-- "Factor multiply" of a by f (00_scope.md 2.3). -/
def factorMul (a f : Nat) : Nat := (a * f + 2048) / 4096

/-- "Saturate" to the range lo to hi (00_scope.md 2.3). -/
def clampInt (lo hi x : Int) : Int := max lo (min hi x)

/-- A natural number kept within lo and hi. -/
def clampNat (lo hi x : Nat) : Nat := max lo (min hi x)

/-- A count that goes up by one and stays at `cap` once it reaches it. -/
def bump (cap n : Nat) : Nat := min cap (n + 1)

/-- A stopped or running strobe count, advanced by one strobe and kept at `cap`. -/
def bumpTimer (cap : Nat) (t : Option Nat) : Option Nat := t.map (bump cap)

/-- A running timer advanced by one strobe; it does not pass its limit. -/
def Timer.tick (t : Timer) : Timer := { t with count := bump t.limit t.count }

/-- A timer whose count has reached its limit. -/
def Timer.expired (t : Timer) : Bool := decide (t.limit ≤ t.count)

/-! ### Scan numbers and instants -/

/-- A span in scans: the later scan number less the earlier, modulo 2^32 (R44). -/
def scanSpan (later earlier : Word32) : Nat := (later - earlier).toNat

/-- A scan number in fine units of 1/16 scan (R44). -/
def fineOfScan (n : Word32) : Instant := BitVec.ofNat 36 (n.toNat * 16)

/-- The span from `earlier` to `later` in fine units; a span of 2^31 × 16 or more is read as negative (R44). -/
def fineSpan (later earlier : Instant) : Int := (later - earlier).toInt

/-- The mean of two instants, rounded half up: the earlier plus floor((span + 1) / 2) (R46). -/
def meanInstant (a b : Instant) : Instant :=
  if fineSpan b a < 0 then b + BitVec.ofNat 36 (((fineSpan a b + 1) / 2).toNat)
  else a + BitVec.ofNat 36 (((fineSpan b a + 1) / 2).toNat)

/-! ### Breakpoint curves -/

/-- A breakpoint curve read at x (R60). A curve has at least one point; the reading of an empty list is never used. -/
def readCurve : Curve → Int → Int
  | [], _ => 0
  | [p], _ => p.y
  | p :: q :: rest, x =>
    if x ≤ p.x then p.y
    else if x < q.x then p.y + Int.tdiv ((q.y - p.y) * (x - p.x)) (q.x - p.x)
    else readCurve (q :: rest) x

/-- Whether a curve's x strictly ascends (cross-item check 1 of section 9.3). -/
def ascending : Curve → Bool
  | p :: q :: rest => decide (p.x < q.x) && ascending (q :: rest)
  | _ => true

/-! ### Sorting by count (R123) -/

/-- A number inserted into an ascending list. -/
def insertSorted (x : Nat) : List Nat → List Nat
  | [] => [x]
  | y :: ys => if x ≤ y then x :: y :: ys else y :: insertSorted x ys

/-- A list of numbers in ascending order. -/
def sortAscending : List Nat → List Nat
  | [] => []
  | x :: xs => insertSorted x (sortAscending xs)

/-! ### Bytes -/

/-- A number in k bytes, most significant first (00_scope.md 2.6). -/
def natBytes : Nat → Nat → List Byte
  | 0, _ => []
  | k + 1, n => BitVec.ofNat 8 (n / 256 ^ k) :: natBytes k n

/-- A signed number in k bytes, two's complement, most significant first (chapter 10). -/
def intBytes (k : Nat) (x : Int) : List Byte := natBytes k (x % (256 ^ k : Nat)).toNat

/-- A truth value in one byte: 1 for true and 0 for false. Chapter 10 gives the field's size and not its values; they are the model's
choice (log 39). -/
def boolByte (b : Bool) : List Byte := [if b then 1 else 0]

/-- The number that bytes spell, most significant first. -/
def bytesNat (bs : List Byte) : Nat := bs.foldl (fun n b => n * 256 + b.toNat) 0

/-- The field of k bytes at an offset of a payload. -/
def field (payload : List Byte) (offset k : Nat) : Nat := bytesNat ((payload.drop offset).take k)

/-- The signed field of k bytes at an offset of a payload. -/
def fieldInt (payload : List Byte) (offset k : Nat) : Int :=
  let n := field payload offset k
  if n < 256 ^ k / 2 then n else (n : Int) - (256 ^ k : Nat)

/-- The 32-bit field at an offset of a payload. -/
def fieldWord (payload : List Byte) (offset : Nat) : Word32 := BitVec.ofNat 32 (field payload offset 4)

/-- A list of numbers as `k` two-byte fields, the places beyond it taken from `pad` (chapter 10, READ RUN). -/
def paddedWords (pad : Nat → List Byte) : Nat → List Nat → List Byte
  | 0, _ => []
  | k + 1, [] => pad k ++ paddedWords pad k []
  | k + 1, x :: xs => natBytes 2 x ++ paddedWords pad k xs

/-! ### CRC-16 (R159) -/

/-- One bit of the CRC register: polynomial x^16 + x^12 + x^5 + 1. -/
def crcShift (r : Word16) : Word16 := if r.msb then (r <<< 1) ^^^ 0x1021 else r <<< 1

/-- n bits of the CRC register. -/
def crcShifts : Nat → Word16 → Word16
  | 0, r => r
  | n + 1, r => crcShifts n (crcShift r)

/-- One byte into the CRC register, most significant bit first. -/
def crcByte (r : Word16) (b : Byte) : Word16 := crcShifts 8 (r ^^^ (b.setWidth 16 <<< 8))

/-- The CRC-16 of a frame's bytes: register all ones at the start, nothing reflected, no final inversion (R159). -/
def crc16 (bs : List Byte) : Word16 := bs.foldl crcByte 0xFFFF

/-- The two CRC bytes of a frame, most significant first (R159). -/
def crcBytes (bs : List Byte) : List Byte := natBytes 2 (crc16 bs).toNat

/-- A frame: first and second byte, length, payload and CRC (R159, chapter 10). -/
def buildFrame (first second : Byte) (payload : List Byte) : List Byte :=
  let body := first :: second :: natBytes 2 payload.length ++ payload
  body ++ crcBytes body

/-- Whether a completed frame's CRC bytes agree with its destination through payload (R162). -/
def crcAgrees (frame : List Byte) : Bool :=
  frame.drop (frame.length - 2) == crcBytes (frame.take (frame.length - 2))

/-- The length field of a frame, its third and fourth byte. -/
def frameLength (frame : List Byte) : Nat := field frame 2 2

/-- The payload of a whole frame. -/
def framePayload (frame : List Byte) : List Byte := (frame.drop 4).take (frameLength frame)

end Sys2Proof.Machine
end

