-- ==== Sys2Proof/Machine/Flags.lean ====
section
/-! DEFINITION. The flag sets a master reads as bits: the 8 axle flags and the 24 vehicle flags of a record (R185),
the ten attention conditions and the site alarm details (section 8.4, chapter 10), and how each flag is computed. -/

namespace Sys2Proof.Machine

/-- Whether any bit of `b` is set in `f`. -/
def hasAny {w : Nat} (f b : BitVec w) : Bool := (f &&& b) != 0

/-- A flag set when a condition holds. -/
def flagIf {w : Nat} (c : Bool) (b : BitVec w) : BitVec w := if c then b else 0

/-! ### Axle flags, bit 0 to bit 7 (R185) -/

def AFlag.singleRow   : BitVec 8 := 0x01
def AFlag.oneTrack    : BitVec 8 := 0x02
def AFlag.unpaired    : BitVec 8 := 0x04
def AFlag.straddle    : BitVec 8 := 0x08
def AFlag.slip        : BitVec 8 := 0x10
def AFlag.saturated   : BitVec 8 := 0x20
def AFlag.speedRange  : BitVec 8 := 0x40
def AFlag.rowDisagree : BitVec 8 := 0x80

/-! ### Vehicle flags, bit 0 to bit 23 (R185) -/

def VFlag.creep           : BitVec 24 := 0x000001
def VFlag.overspeed       : BitVec 24 := 0x000002
def VFlag.accel           : BitVec 24 := 0x000004
def VFlag.singleRow       : BitVec 24 := 0x000008
def VFlag.rowDisagree     : BitVec 24 := 0x000010
def VFlag.oneTrack        : BitVec 24 := 0x000020
def VFlag.unpaired        : BitVec 24 := 0x000040
def VFlag.straddle        : BitVec 24 := 0x000080
def VFlag.slip            : BitVec 24 := 0x000100
def VFlag.saturated       : BitVec 24 := 0x000200
def VFlag.tempLost        : BitVec 24 := 0x000400
def VFlag.linkLoss        : BitVec 24 := 0x000800
def VFlag.settingsChanged : BitVec 24 := 0x001000
def VFlag.laneClosed      : BitVec 24 := 0x002000
def VFlag.truncated       : BitVec 24 := 0x004000
def VFlag.continued       : BitVec 24 := 0x008000
def VFlag.abandoned       : BitVec 24 := 0x010000
def VFlag.tempHeld        : BitVec 24 := 0x020000
def VFlag.noLoop          : BitVec 24 := 0x040000
def VFlag.loopFault       : BitVec 24 := 0x080000
def VFlag.split           : BitVec 24 := 0x100000
def VFlag.noAxles         : BitVec 24 := 0x200000
def VFlag.frost           : BitVec 24 := 0x400000
def VFlag.hot             : BitVec 24 := 0x800000

/-- The unreliability set, bits 0 to 16 (R112, R185). -/
def VFlag.unreliable : BitVec 24 := 0x01FFFF

/-- The speed of a paired axle below the weighing range (R59). -/
def isCreep (v : Nat) : Bool := decide (v < 139)
/-- The speed of a paired axle above the weighing range (R59). -/
def isOverspeed (v : Nat) : Bool := decide (5556 < v)

/-- The vehicle flags one axle gives: those of its own flags' names, and CREEP and OVERSPEED by its speed
(R112, R106). -/
def axleVehicleFlags (a : Axle) : BitVec 24 :=
  flagIf (hasAny a.flags AFlag.singleRow) VFlag.singleRow |||
  flagIf (hasAny a.flags AFlag.rowDisagree) VFlag.rowDisagree |||
  flagIf (hasAny a.flags AFlag.oneTrack) VFlag.oneTrack |||
  flagIf (hasAny a.flags AFlag.unpaired) VFlag.unpaired |||
  flagIf (hasAny a.flags AFlag.straddle) VFlag.straddle |||
  flagIf (hasAny a.flags AFlag.slip) VFlag.slip |||
  flagIf (hasAny a.flags AFlag.saturated) VFlag.saturated |||
  flagIf (a.speed.any isCreep) VFlag.creep |||
  flagIf (a.speed.any isOverspeed) VFlag.overspeed

/-- ACCEL: at least two axles have a speed and (max − min) × 10 is greater than the vehicle speed (R106). -/
def isAccel (speeds : List Nat) (vehicleSpeed : Nat) : Bool :=
  decide (2 ≤ speeds.length) &&
    decide (vehicleSpeed < (speeds.foldl max 0 - speeds.foldl min (speeds.headD 0)) * 10)

/-- LOST: a HELD lane whose held time has reached 7,200,000 strobes (R82). -/
def LaneTemp.isLost (t : LaneTemp) : Bool := t.source == .held && decide (7200000 ≤ t.held)

/-- The source as reported (R82). -/
def LaneTemp.reported (t : LaneTemp) : ReportedSource :=
  match t.source with
  | .primary => .primary
  | .secondary => .secondary
  | .siteMean => .siteMean
  | .held => if t.isLost then .lost else .held

/-- The vehicle flags the monitor supplies at sealing (R85). -/
def tempVehicleFlags (t : LaneTemp) (correction : Bool) : BitVec 24 :=
  flagIf t.frost VFlag.frost ||| flagIf t.hot VFlag.hot |||
  flagIf (t.source == .held && !t.isLost) VFlag.tempHeld |||
  flagIf (t.isLost && correction) VFlag.tempLost

/-! ### Attention conditions and site alarm details -/

/-- The ten attention conditions (section 8.4). -/
inductive Condition where
  | restarted | newRecord | lag1 | lag2 | overtaken | editLost | refPending | driftProposal | siteAlarm | lineError
deriving DecidableEq, Repr

/-- The bit of a condition in a condition set (chapter 10). -/
def Condition.mask : Condition → BitVec 10
  | .restarted => 0x001 | .newRecord => 0x002 | .lag1 => 0x004 | .lag2 => 0x008 | .overtaken => 0x010
  | .editLost => 0x020 | .refPending => 0x040 | .driftProposal => 0x080 | .siteAlarm => 0x100 | .lineError => 0x200

/-- The seven latched conditions, all but the levels NEW_RECORD, LAG1 and LAG2 (section 8.4). -/
def latchedConditions : BitVec 10 := 0x3F1

/-- The nine site alarm details with the MARGIN1 and MARGIN2 latches (section 8.4). -/
inductive Detail where
  | timeStepped | scanLink | channelSilent | probeSlotOrder | probeState | loopFault | recordDropped | storeFault
  | settingsInvalid | margin1 | margin2
deriving DecidableEq, Repr

/-- The bit of a detail in a detail set (chapter 10). -/
def Detail.mask : Detail → BitVec 11
  | .timeStepped => 0x001 | .scanLink => 0x002 | .channelSilent => 0x004 | .probeSlotOrder => 0x008
  | .probeState => 0x010 | .loopFault => 0x020 | .recordDropped => 0x040 | .storeFault => 0x080
  | .settingsInvalid => 0x100 | .margin1 => 0x200 | .margin2 => 0x400

/-- A condition latched at a port (R168). -/
def SitePort.latch (c : Condition) (q : SitePort) : SitePort := { q with cond := q.cond ||| c.mask }

/-- A site alarm detail latched at a port, which sets the port's SITE_ALARM (R168). -/
def SitePort.latchDetail (d : Detail) (q : SitePort) : SitePort :=
  { q with details := q.details ||| d.mask, cond := q.cond ||| Condition.siteAlarm.mask }

/-- A level condition taking its value (R147, R168). -/
def SitePort.setLevel (c : Condition) (v : Bool) (q : SitePort) : SitePort :=
  { q with cond := if v then q.cond ||| c.mask else q.cond &&& ~~~c.mask }

/-- CLEAR ATTENTION at a port: the latched conditions of the set are cleared, and with SITE_ALARM every detail and the
MARGIN1 and MARGIN2 latches; levels follow their state (R169). -/
def SitePort.clearConditions (set : BitVec 10) (q : SitePort) : SitePort :=
  { q with
    cond := q.cond &&& ~~~(set &&& latchedConditions)
    details := if hasAny set Condition.siteAlarm.mask then 0 else q.details }

/-- The attention line: asserted exactly when at least one enabled condition holds (R169). -/
def SitePort.attention (q : SitePort) : Bool := hasAny q.cond q.enables

end Sys2Proof.Machine
end

