-- ==== Sys2Proof/Machine/Ops.lean ====
section
/-! DEFINITION. The named operations over the state: one reader and one writer for each block, the latching of
conditions and details (R168), and the start of programming (R181). Every other file reads and writes the blocks
through these. -/

namespace Sys2Proof.Machine

/-! ### Readers -/

/-- The settings in use. -/
def State.settings (s : State) : Settings := s.sst.active.settings
/-- The calibration generation (chapter 9). -/
def State.generation (s : State) : Word32 := s.sst.active.generation
/-- The items of a lane in the active image. -/
def State.laneSet (s : State) (l : Lane) : LaneSettings := s.settings.lane.get l
/-- The items of a channel in the active image. -/
def State.channelSet (s : State) (c : Channel) : ChannelSettings := getCh s.settings.channel c
/-- The site items in the active image. -/
def State.site (s : State) : SiteSettings := s.settings.site
/-- The items of a port in the active image. -/
def State.portSet (s : State) (p : Port) : PortSettings := s.settings.port.get p
/-- A lane's axle former. -/
def State.former (s : State) (l : Lane) : AxleFormer := s.axf.get l
/-- A lane's vehicle builder. -/
def State.builder (s : State) (l : Lane) : Builder := s.vb.get l
/-- A lane's vehicle context. -/
def State.ctx (s : State) (l : Lane) : Context := (s.builder l).ctx
/-- A lane's drift tracker. -/
def State.tracker (s : State) (l : Lane) : DriftTracker := s.dtk.get l
/-- A lane's temperature. -/
def State.laneTemp (s : State) (l : Lane) : LaneTemp := s.ptm.lane.get l
/-- A channel's conditioner. -/
def State.conditioner (s : State) (c : Channel) : Conditioner := getCh s.cc c
/-- A half-pending slot. -/
def State.slot (s : State) (c : Channel) : Slot := (s.former c.lane).slots.get c.row c.side
/-- A site port. -/
def State.sitePort (s : State) (p : Port) : SitePort := s.port.get p
/-- Whether a port holds the edit token (R176). -/
def State.holdsToken (s : State) (p : Port) : Bool := s.sst.edit.any fun e => e.holder == p
/-- Whether programming of the nonvolatile image is in progress (R181). -/
def State.programming (s : State) : Bool := s.sst.prog != .idle
/-- Whether a reference run is active on a lane: the unit in ARMED, PENDING or FULL with it as run lane (R121). -/
def State.runActive (s : State) (l : Lane) : Bool := s.rru.state != .idle && s.rru.lane == some l

/-! ### Writers -/

def State.withPending (s : State) (x : List Instr) : State := { s with pending := x }
def State.withLines (s : State) (x : Lines) : State := { s with lines := x }
def State.withSck (s : State) (x : Clock) : State := { s with sck := x }
def State.withSlr (s : State) (x : Link) : State := { s with slr := x }
def State.withCc (s : State) (x : PerChannel Conditioner) : State := { s with cc := x }
def State.withConditioner (s : State) (c : Channel) (x : Conditioner) : State := { s with cc := setCh s.cc c x }
def State.withFormer (s : State) (l : Lane) (x : AxleFormer) : State := { s with axf := s.axf.set l x }
def State.withBuilder (s : State) (l : Lane) (x : Builder) : State := { s with vb := s.vb.set l x }
def State.withCtx (s : State) (l : Lane) (x : Context) : State := s.withBuilder l { s.builder l with ctx := x }
def State.withVehicleNumber (s : State) (x : Nat) : State := { s with vehicleNumber := x }
def State.withPtm (s : State) (x : TempMonitor) : State := { s with ptm := x }
def State.withTracker (s : State) (l : Lane) (x : DriftTracker) : State := { s with dtk := s.dtk.set l x }
def State.withRru (s : State) (x : RunUnit) : State := { s with rru := x }
def State.withRst (s : State) (x : RecordStore) : State := { s with rst := x }
def State.withSea (s : State) (x : Arbiter) : State := { s with sea := x }
def State.withPort (s : State) (p : Port) (x : SitePort) : State := { s with port := s.port.set p x }
def State.withPorts (s : State) (x : PerPort SitePort) : State := { s with port := x }
def State.withStartCause (s : State) (x : StartCause) : State := { s with startCause := x }
def State.withSst (s : State) (x : SettingsStore) : State := { s with sst := x }
def State.withFreeCount (s : State) (x : Nat) : State := { s with freeCount := x }

/-- A half-pending slot replaced. -/
def State.withSlot (s : State) (c : Channel) (x : Slot) : State :=
  s.withFormer c.lane { s.former c.lane with slots := (s.former c.lane).slots.set c.row c.side x }

/-- A lane's upstream pending list replaced. -/
def State.withUpstream (s : State) (l : Lane) (x : List RowPulse) : State :=
  s.withFormer l { s.former l with upstream := x }

/-- The level of the calibration-enable line as a command gives it. -/
def State.withKey (s : State) (key : Bool) : State := s.withLines { s.lines with key := key }

/-! ### Latching (R168) -/

/-- A condition latched at one port. -/
def latchAt (p : Port) (c : Condition) (s : State) : State := s.withPort p ((s.sitePort p).latch c)

/-- A site alarm detail latched: it is set at all three ports together (section 8.4). -/
def latchDetail (d : Detail) (s : State) : State := s.withPorts (s.port.mapI fun _ q => q.latchDetail d)

/-- A detail latched when a condition holds. -/
def latchDetailIf (b : Bool) (d : Detail) (s : State) : State := if b then latchDetail d s else s

/-! ### Programming and the generation -/

/-- Programming starts: the snapshot is the active image, step 1 is ready at once, and from here the stored image's
CRC does not agree until step 16 has verified (R181, log 7). -/
def startProgramming (s : State) : State :=
  s.withSst { s.sst with prog := .ready 1 s.sst.active, nvGood := false }

end Sys2Proof.Machine
end

