-- ==== Sys2Proof/Machine/Vehicle.lean ====
section
/-! DEFINITION. What sealing works out of a vehicle (sections 5.4 to 5.7): spacings, vehicle speed, groups, class,
judgement, overload detail, flags, verdict and annotations, gathered into the record of R117. -/

namespace Sys2Proof.Machine

/-- An axle's load: the left side load plus the right (R64). -/
def Axle.load (a : Axle) : Nat := a.left + a.right

/-- The pair speed of two axles: the mean of their speeds rounded half up, or the one speed present (R105). -/
def pairSpeed : Option Nat → Option Nat → Option Nat
  | some a, some b => some ((a + b + 1) / 2)
  | some a, none => some a
  | none, some b => some b
  | none, none => none

/-- The spacing of an axle from the last axle of its vehicle, in cm (R105). -/
def axleSpacing (prev next : Axle) : Nat :=
  match pairSpeed prev.speed next.speed with
  | none => 0
  | some v =>
    let span := fineSpan next.instant prev.instant
    if span ≤ 0 then 0 else min 65535 ((span.toNat * v + 64000) / 128000)

/-- The speeds of the axles that have one, in axle order. -/
def axleSpeeds (axles : List HeldAxle) : List Nat := axles.filterMap fun h => h.axle.speed

/-- The vehicle speed: the mean of the speeds present, rounded half up; absent when no axle is paired (R106). -/
def vehicleSpeed (speeds : List Nat) : Option Nat :=
  if speeds.isEmpty then none else some (roundDiv speeds.sum speeds.length)

/-- Group numbers of the axles that follow one in group n (R107). -/
def groupsAfter (limit : Nat) : Nat → List HeldAxle → List Nat
  | _, [] => []
  | n, h :: rest =>
    let k := if h.spacing ≤ limit then n else n + 1
    k :: groupsAfter limit k rest

/-- The group number of every axle, in axle order (R107). -/
def groupNumbers (limit : Nat) : List HeldAxle → List Nat
  | [] => []
  | _ :: rest => 1 :: groupsAfter limit 1 rest

/-- The gross weight: the sum of all axle loads (R107). -/
def grossWeight (axles : List HeldAxle) : Nat := (axles.map fun h => h.axle.load).sum

/-- The axle loads of one group. -/
def groupLoads (axles : List HeldAxle) (groups : List Nat) (k : Nat) : List Nat :=
  ((axles.zip groups).filter fun p => p.2 == k).map fun p => p.1.axle.load

/-- Whether each spacing lies within its window, both ends inclusive (R109). -/
def matchWindows : List Nat → List SpacingWindow → Bool
  | [], _ => true
  | _ :: _, [] => false
  | x :: xs, w :: ws => decide (w.lo ≤ x) && decide (x ≤ w.hi) && matchWindows xs ws

/-- Whether a class rule matches a vehicle of these axles and gross weight (R109). -/
def ClassRule.fits (r : ClassRule) (axles : List HeldAxle) (gross : Nat) : Bool :=
  r.axles == axles.length && matchWindows (axles.tail.map fun h => h.spacing) r.windows &&
    r.grossMin.all (fun m => decide (m ≤ gross)) && r.grossMax.all (fun m => decide (gross ≤ m))

/-- The first rule in force that matches, with its position counted from `pos` (R109). -/
def firstRule (axles : List HeldAxle) (gross : Nat) : Nat → List ClassRule → Option (Nat × ClassRule)
  | _, [] => none
  | pos, r :: rs => if r.fits axles gross then some (pos, r) else firstRule axles gross (pos + 1) rs

/-- The rule that gives a vehicle its class: none when it has no axles, when it has one, or when none matches (R109). -/
def matchingRule (cfg : Settings) (axles : List HeldAxle) : Option (Nat × ClassRule) :=
  if axles.length < 2 then none
  else firstRule axles (grossWeight axles) 1 (cfg.rules.take cfg.site.classRuleCount)

/-- An item exceeds its limit when measured × 100 is greater than limit × (100 + tolerance); a limit of 0 is not
checked (R110). The excess is measured from the limit itself and saturates at 65,535. -/
def exceedance (tolerance : Nat) (kind : OverKind) (index measured limit : Nat) : Option Overload :=
  if limit != 0 && decide (limit * (100 + tolerance) < measured * 100) then
    some ⟨kind, index, min 65535 (measured - limit)⟩
  else none

/-- The limit of a group of n axles: tandem, tridem, n × multi (R110). -/
def groupLimit (lim : Limits) (n : Nat) : Nat :=
  if n = 2 then lim.tandem else if n = 3 then lim.tridem else n * lim.multi

/-- Axle exceedances, axles numbered from n (R110). -/
def axleExceedances (tolerance limit : Nat) : Nat → List HeldAxle → List Overload
  | _, [] => []
  | n, h :: rest =>
    (exceedance tolerance .axle n h.axle.load limit).toList ++ axleExceedances tolerance limit (n + 1) rest

/-- Exceedances of the groups of two or more axles, by group number (R110). -/
def groupExceedances (tolerance : Nat) (lim : Limits) (axles : List HeldAxle) (groups : List Nat) : List Overload :=
  (List.range (groups.foldl max 0)).flatMap fun i =>
    let loads := groupLoads axles groups (i + 1)
    if 2 ≤ loads.length then
      (exceedance tolerance .group (i + 1) loads.sum (groupLimit lim loads.length)).toList
    else []

/-- Every exceedance of a vehicle, ranked AXLE, GROUP, GROSS and by index (R110, R111). -/
def exceedances (tolerance : Nat) (lim : Limits) (axles : List HeldAxle) (groups : List Nat) : List Overload :=
  axleExceedances tolerance lim.single 1 axles ++ groupExceedances tolerance lim axles groups ++
    (exceedance tolerance .gross 0 (grossWeight axles) lim.gross).toList

/-- The first exceedance with the largest excess (R111). -/
def largestExcess : List Overload → Option Overload
  | [] => none
  | o :: rest =>
    match largestExcess rest with
    | none => some o
    | some b => if b.excess ≤ o.excess then some o else some b

/-- The verdict of a vehicle (R113). -/
def verdictOf (axles : List HeldAxle) (overload : Option Overload) (flags : BitVec 24) : Verdict :=
  if axles.all (fun h => hasAny h.axle.flags AFlag.unpaired) then .notWeighed
  else if overload.isSome then (if hasAny flags VFlag.unreliable then .unreliable else .suspect)
  else .clear

/-- The vehicle flags at sealing: those the context gathered, those of the sealing itself, those of the axles, ACCEL,
LOOP_FAULT while the lane is in it, NO_AXLES, and those of the lane temperature (R112, R85, R92). -/
def sealedFlags (s : State) (l : Lane) (c : Context) (extra : BitVec 24) : BitVec 24 :=
  let speeds := axleSpeeds c.axles
  c.axles.foldl (fun f h => f ||| axleVehicleFlags h.axle)
    (c.flags ||| extra |||
      flagIf (isAccel speeds ((vehicleSpeed speeds).getD 0)) VFlag.accel |||
      flagIf (s.builder l).loopFault VFlag.loopFault |||
      flagIf c.axles.isEmpty VFlag.noAxles |||
      tempVehicleFlags (s.laneTemp l) (s.laneSet l).tempCorrection)

/-- The record of a vehicle sealed on a lane with the given number (R106 to R115, R117). -/
def sealRecord (s : State) (l : Lane) (c : Context) (extra : BitVec 24) (number : Nat) : Record :=
  let cfg := s.settings
  let groups := groupNumbers cfg.site.groupSpacing c.axles
  let rule := matchingRule cfg c.axles
  let lim := (rule.map fun r => r.2.limits).getD cfg.site.unclassified
  let overload := largestExcess (exceedances cfg.site.tolerance lim c.axles groups)
  let flags := sealedFlags s l c extra
  { number     := number
    lane       := l
    cls        := (rule.map fun r => r.2.code).getD 0
    ruleIndex  := rule.map fun r => r.1
    verdict    := verdictOf c.axles overload flags
    flags      := flags
    overload   := overload
    time       := (c.axles.head?.map fun h => h.axle.time).getD c.openTime
    quality    := s.sck.timeState
    generation := c.stamp
    speed      := vehicleSpeed (axleSpeeds c.axles)
    gross      := grossWeight c.axles
    temp       := (s.laneTemp l).value
    source     := (s.laneTemp l).reported
    axles      := (c.axles.zip groups).map fun p =>
      ⟨p.1.axle.left, p.1.axle.right, p.1.spacing, p.2, p.1.axle.flags⟩ }

/-- An announcement: the record with what goes only to the takers inside the processor, each axle's speed or its absence and its
two row loads (R117). -/
structure Announcement where
  record : Record
  speeds : List (Option Nat)
  wU     : List Nat
  wD     : List Nat
deriving DecidableEq, Repr

/-- The announcement of a vehicle sealed with the given number. -/
def announcementOf (s : State) (l : Lane) (c : Context) (extra : BitVec 24) (number : Nat) : Announcement :=
  { record := sealRecord s l c extra number
    speeds := c.axles.map fun h => h.axle.speed
    wU     := c.axles.map fun h => h.axle.wU
    wD     := c.axles.map fun h => h.axle.wD }

/-- An axle entry's load. -/
def AxleEntry.load (a : AxleEntry) : Nat := a.left + a.right

/-- The axle loads of a record, in axle order. -/
def Record.loads (r : Record) : List Nat := r.axles.map fun a => a.load

/-- Whether a record carries any flag of the unreliability set (R112). -/
def Record.unreliable (r : Record) : Bool := hasAny r.flags VFlag.unreliable

end Sys2Proof.Machine
end

