-- ==== Sys2Proof/Machine/Drift.lean ====
section
/-! DEFINITION. The drift tracker's own work (section 6.1): admission, the window, the evaluation, proposals and the
emptying of a tracker. The taking of an application stands in Calibration.lean, its requests in Requests.lean. -/

namespace Sys2Proof.Machine

/-- Whether the tracker of the record's lane admits an announced vehicle (R121). -/
def admits (s : State) (r : Record) : Bool :=
  let cfg := s.laneSet r.lane
  cfg.driftMode != .off && (s.tracker r.lane).app.isNone && !s.runActive r.lane &&
    r.cls == cfg.refClass && r.verdict != .notWeighed && !r.unreliable &&
    r.speed.any (fun v => decide (1667 ≤ v) && decide (v ≤ 3056)) &&
    decide (cfg.refGrossMin ≤ r.gross) && (r.source == .primary || r.source == .secondary) &&
    decide (0 < r.loads.headD 0)

/-- The trimmed mean of a full window: the 8 lowest and the 8 highest set aside, the mean of the middle 48 rounded half
up (R123, step 1). -/
def trimmedMean (window : List Nat) : Nat :=
  ((((sortAscending window).drop 8).take 48).sum + 24) / 48

/-- The evaluation of a full window against drift factor D and the drift target (R123). -/
def evaluate (window : List Nat) (d target : Nat) : Evaluation :=
  let mean := trimmedMean window
  let ratio := roundDiv (target * 4096) mean
  let unlimited := factorMul d ratio
  { mean := mean, ratio := ratio, unlimited := unlimited
    limited := clampNat 3686 4506 (clampNat (d - 41) (d + 41) unlimited) }

/-- DRIFT_PROPOSAL latched at every port whose privileges include EDIT (R124, R167). -/
def latchDriftProposal (s : State) : State :=
  s.withPorts (s.port.mapI fun p q => if (s.portSet p).privileges.edit then q.latch .driftProposal else q)

/-- Whether a new proposal of a lane becomes its pending application by itself (R124). -/
def autoApplies (s : State) (l : Lane) : Bool := (s.laneSet l).driftMode == .auto && s.site.autoDrift

/-- The evaluation of a lane's full window and what becomes of its proposal; the window is then empty, and a proposal held before
is replaced, applied over or removed (R122 to R124). -/
def evaluateWindow (l : Lane) (window : List Nat) (s : State) : State :=
  let d := s.sst.active.drift.get l
  let ev := evaluate window d (s.laneSet l).driftTarget
  let t := { s.tracker l with window := [], last := some ev, evals := bump 65535 (s.tracker l).evals }
  if ev.limited = d then s.withTracker l { t with proposal := none }
  else if autoApplies s l then s.withTracker l { t with proposal := none, app := some ⟨.proposal, ev.limited⟩ }
  else latchDriftProposal (s.withTracker l { t with proposal := some ev.limited })

/-- The drift tracker's part of an announcement: a vehicle admitted joins the window with its first axle's load, and
the append that makes 64 entries is evaluated at once (R121, R122). -/
def driftTake (a : Announcement) (s : State) : State :=
  let l := a.record.lane
  if admits s a.record then
    let window := (s.tracker l).window ++ [a.record.loads.headD 0]
    if window.length < 64 then s.withTracker l { s.tracker l with window := window }
    else evaluateWindow l window s
  else s

/-- A lane's window emptied and its held proposal withdrawn. -/
def DriftTracker.emptied (t : DriftTracker) : DriftTracker := { t with window := [], proposal := none }

/-- A committed change of a protected item of the lane: besides, a pending application of kind PROPOSAL is cancelled;
one of kind RESET stays (R129). -/
def DriftTracker.calibrationChanged (t : DriftTracker) : DriftTracker :=
  { t.emptied with app := t.app.filter fun a => a.kind == .reset }

end Sys2Proof.Machine
end

