-- ==== Sys2Proof/Machine/Run.lean ====
section
/-! DEFINITION. The reference run unit's own work (section 6.2): candidates, pass ratios, speed points, proposals and
the run's end. Its requests stand in Requests.lean. -/

namespace Sys2Proof.Machine

/-- Whether an announced vehicle is a candidate of the run (R133). -/
def isCandidate (u : RunUnit) (a : Announcement) : Bool :=
  u.state != .idle && u.lane == some a.record.lane && a.record.axles.length == u.loads.length &&
    !a.record.unreliable && a.record.loads.all (fun w => decide (0 < w)) &&
    a.wU.all (fun w => decide (0 < w)) && a.wD.all (fun w => decide (0 < w))

/-- The run unit's part of an announcement: in ARMED a candidate becomes the pending pass and REF_PENDING latches at
the owner port; in PENDING and FULL it is skipped (R133). -/
def runTake (a : Announcement) (s : State) : State :=
  let u := s.rru
  if isCandidate u a then
    if u.state = .armed then
      let s := s.withRru { u with
        state := .pending
        pass := some ⟨a.record.number, a.record.speed.getD 0, a.record.loads, a.wU, a.wD⟩
        pendTimer := some 0
        armed := none }
      match u.owner with
      | some p => latchAt p .refPending s
      | none => s
    else s.withRru { u with skipped := bump 65535 u.skipped }
  else s

/-- The pass ratio of one row: the mean, rounded half up, of the axle ratios static × 4,096 / row load, each rounded
half up (R134, steps 1 and 2). -/
def passRatio (loads rows : List Nat) : Nat :=
  let ratios := (loads.zip rows).map fun p => roundDiv (p.1 * 4096) p.2
  roundDiv ratios.sum ratios.length

/-- The index from 0 of the speed point whose x lies nearest a speed; of two at equal distance the lower-numbered
(R134, step 3). -/
def nearestPoint (v : Int) : List SpeedPoint → Nat
  | [] => 0
  | [_] => 0
  | p :: q :: rest =>
    let k := nearestPoint v (q :: rest)
    let best := ((q :: rest).map fun r => r.x).getD k q.x
    if (p.x - v).natAbs ≤ (best - v).natAbs then 0 else k + 1

/-- A pass ratio pair added to one speed point (R134, step 4). -/
def SpeedPoint.add (u d : Nat) (p : SpeedPoint) : SpeedPoint :=
  { p with count := p.count + 1, sumU := p.sumU + u, sumD := p.sumD + d }

/-- The pending pass accepted into the run (R134). -/
def RunUnit.accept (u : RunUnit) (p : PendingPass) : RunUnit :=
  let ratioU := passRatio u.loads p.wU
  let ratioD := passRatio u.loads p.wD
  let k := nearestPoint p.speed u.points
  let passes := u.passes ++ [⟨p.number, p.speed, k, ratioU, ratioD, p.loads⟩]
  let isFull := decide (16 ≤ passes.length)
  { u with
    points := u.points.modify k (SpeedPoint.add ratioU ratioD)
    passes := passes
    pass := none
    pendTimer := none
    state := if isFull then .full else .armed
    armed := if isFull then none else some 0 }

/-- The pending pass discarded by REJECT PASS or the pending timer (R135). -/
def RunUnit.reject (u : RunUnit) : RunUnit :=
  { u with pass := none, pendTimer := none, state := .armed, armed := some 0 }

/-- The run ended with a result; its figures stay readable (R136 to R139). -/
def RunUnit.finish (result : RunResult) (u : RunUnit) : RunUnit :=
  { u with state := .idle, pass := none, pendTimer := none, armed := none, result := result }

/-- The run ends with a result if one is active. -/
def endRunIf (active : Bool) (result : RunResult) (s : State) : State :=
  if active then s.withRru (s.rru.finish result) else s

/-- The mean ratio of a speed point, absent without accepted passes (R137). -/
def meanRatio (sum count : Nat) : Option Nat := if count = 0 then none else some (roundDiv sum count)

/-- The proposal for a point: its present y worked with the mean ratio and kept within 2,048 and 8,191; without a mean
ratio, the present y (R137). -/
def proposalOf (y : Int) (mean : Option Nat) : Int :=
  match mean with
  | none => y
  | some m => clampInt 2048 8191 ((y * m + 2048) / 4096)

/-- The proposal for a point of the U curve (R137). -/
def SpeedPoint.proposalU (p : SpeedPoint) : Int := proposalOf p.yU (meanRatio p.sumU p.count)

/-- The proposal for a point of the D curve (R137). -/
def SpeedPoint.proposalD (p : SpeedPoint) : Int := proposalOf p.yD (meanRatio p.sumD p.count)

/-- The proposed U speed curve (R138). -/
def RunUnit.curveU (u : RunUnit) : Curve := u.points.map fun p => ⟨p.x, p.proposalU⟩

/-- The proposed D speed curve (R138). -/
def RunUnit.curveD (u : RunUnit) : Curve := u.points.map fun p => ⟨p.x, p.proposalD⟩

/-- A run newly started: owner, lane, loads and speed points taken, everything else cleared, ARMED (R132). -/
def RunUnit.started (owner : Port) (l : Lane) (loads : List Nat) (cu cd : Curve) : RunUnit :=
  { RunUnit.start with
    state := .armed
    owner := some owner
    lane := some l
    loads := loads
    points := (cu.zip cd).map fun p => ⟨p.1.x, p.1.y, p.2.y, 0, 0, 0⟩
    armed := some 0 }

end Sys2Proof.Machine
end

