-- ==== Sys2Proof/Machine/Store.lean ====
section
/-! DEFINITION. The record store and the access arbiter (chapter 7): the commit queue, the record commit, cursors,
filters and level conditions, what a record request determines at its grant, and the two levels of the arbiter. -/

namespace Sys2Proof.Machine

/-- The most bytes the records in the store may take (R141). -/
def storeBytes : Nat := 32768

/-- The size of a record: 40 + 8 × its axle count bytes (R141). -/
def Record.size (r : Record) : Nat := 40 + 8 * r.axles.length

/-- The sum of the sizes of records. -/
def recordBytes (rs : List Record) : Nat := (rs.map Record.size).sum

/-- The oldest number, absent while the list is empty (R141). -/
def RecordStore.oldest (st : RecordStore) : Option Nat := st.records.head?.map Record.number

/-- The verdict's code (chapter 10). -/
def Verdict.code : Verdict → Nat
  | .clear => 0 | .suspect => 1 | .unreliable => 2 | .notWeighed => 3

/-- Whether a record matches a filter (R146). -/
def Filter.accepts (f : Filter) (r : Record) : Bool :=
  f.lanes.getLsbD (r.lane.number - 1) && f.classes.getLsbD r.cls && f.verdicts.getLsbD r.verdict.code

/-- The retained records with numbers at or above a cursor. -/
def unreadRecords (rs : List Record) (cursor : Nat) : List Record := rs.filter fun r => decide (cursor ≤ r.number)

/-- A port's unread bytes (R147). -/
def RecordStore.unreadBytes (st : RecordStore) (p : Port) : Nat := recordBytes (unreadRecords st.records (st.cursor.get p))

/-- Whether NEW_RECORD holds for a port (R147). -/
def RecordStore.hasNew (st : RecordStore) (p : Port) : Bool :=
  (unreadRecords st.records (st.cursor.get p)).any (st.filter.get p).accepts

/-- The three level conditions of a port re-evaluated and handed to its attention logic (R147). -/
def levelsAt (st : RecordStore) (p : Port) (q : SitePort) : SitePort :=
  ((q.setLevel .newRecord (st.hasNew p)).setLevel .lag1 (decide (24576 ≤ st.unreadBytes p))).setLevel .lag2
    (decide (28672 ≤ st.unreadBytes p))

/-- One port's level conditions re-evaluated, after a change of its cursor or filter (R147). -/
def reevaluate (p : Port) (s : State) : State := s.withPort p (levelsAt s.rst p (s.sitePort p))

/-- Every port's level conditions re-evaluated, after a commit (R143). -/
def reevaluateAll (s : State) : State := s.withPorts (s.port.mapI (levelsAt s.rst))

/-- The commit queue's part of an announcement: the vehicle joins, or is refused by a full queue (R144). -/
def queueTake (a : Announcement) (s : State) : State :=
  if s.rst.queue.length < 4 then s.withRst { s.rst with queue := s.rst.queue ++ [a.record] }
  else latchDetail .recordDropped (s.withRst { s.rst with dropped := bump 65535 s.rst.dropped })

/-- OVERTAKEN latched at every port that had not released a removed record and whose filter it matches (R145). -/
def latchOvertaken (r : Record) (s : State) : State :=
  s.withPorts (s.port.mapI fun p q =>
    if decide (s.rst.cursor.get p ≤ r.number) && (s.rst.filter.get p).accepts r then q.latch .overtaken else q)

/-- The oldest records removed while the rest and a new record of the given size exceed the record area (R143, R145). -/
def makeRoom (size : Nat) : List Record → State → State
  | [], s => s.withRst { s.rst with records := [] }
  | r :: rest, s =>
    if storeBytes < recordBytes (r :: rest) + size then makeRoom size rest (latchOvertaken r s)
    else s.withRst { s.rst with records := r :: rest }

/-- A cursor raised to the oldest number (R145). -/
def raisedCursor (oldest : Option Nat) (c : Nat) : Nat :=
  match oldest with
  | some n => max n c
  | none => c

/-- One vehicle of the commit queue entered into the store (R143). -/
def commitRecord (r : Record) (queue : List Record) (s : State) : State :=
  let s := makeRoom r.size s.rst.records s
  let st := { s.rst with records := s.rst.records ++ [r], next := r.number + 1, queue := queue }
  reevaluateAll (s.withRst { st with cursor := st.cursor.mapI fun _ c => raisedCursor st.oldest c })

/-! ### Record requests at their grant -/

/-- The records READ RECORDS takes and the number of the last record examined: a record that does not match is passed
over, a matching one is taken while the total stays within max bytes, and the first that would exceed it ends the
examination (R149). -/
def examine (f : Filter) : Nat → List Record → List Record × Option Nat
  | _, [] => ([], none)
  | room, r :: rest =>
    if f.accepts r then
      if r.size ≤ room then
        let (taken, last) := examine f (room - r.size) rest
        (r :: taken, some (last.getD r.number))
      else ([], none)
    else
      let (taken, last) := examine f room rest
      (taken, some (last.getD r.number))

/-- What a READ RECORDS reply holds: the records taken and the resume number (R149). -/
def RecordStore.readOut (st : RecordStore) (p : Port) (maxBytes : Nat) : List Record × Nat :=
  let cursor := st.cursor.get p
  let (taken, last) := examine (st.filter.get p) maxBytes (unreadRecords st.records cursor)
  (taken, (last.map (· + 1)).getD cursor)

/-- A port's cursor moved, with its level conditions re-evaluated (R147). -/
def moveCursor (p : Port) (n : Nat) (s : State) : State :=
  reevaluate p (s.withRst { s.rst with cursor := s.rst.cursor.set p n })

/-- A port's filter replaced, with its level conditions re-evaluated (R147, R151). -/
def replaceFilter (p : Port) (f : Filter) (s : State) : State :=
  reevaluate p (s.withRst { s.rst with filter := s.rst.filter.set p f })

/-! ### The arbiter -/

/-- Whether a request in hand needs a grant, by its code: READ STATUS, READ RECORDS, RELEASE, SEEK, SET FILTER and COMMIT
(section 8.3). -/
def needsGrant (code : Nat) : Bool := code == 2 || code == 6 || code == 7 || code == 8 || code == 9 || code == 17

/-- The code of the request a port holds. -/
def SitePort.code (q : SitePort) : Nat := field q.rx 1 1

/-- Whether a port waits for the engine: it holds a request in EXECUTE that needs a grant (R153). -/
def SitePort.waits (q : SitePort) : Bool := q.state == .execute && needsGrant q.code

/-- Whether the settings engine has a step ready (R153, R181). -/
def Programming.stepReady : Programming → Bool
  | .ready _ _ => true
  | _ => false

/-- Whether a member of level 1 waits (R153, R154). -/
def State.memberWaits (s : State) : Member → Bool
  | .recordCommit => !s.rst.queue.isEmpty
  | .settingsEngine => s.sst.prog.stepReady
  | .portGroup => Port.all.any fun p => (s.sitePort p).waits

/-- The cyclic order of level 1: the members after one, itself last (R154). -/
def membersAfter : Member → List Member
  | .recordCommit => [.settingsEngine, .portGroup, .recordCommit]
  | .settingsEngine => [.portGroup, .recordCommit, .settingsEngine]
  | .portGroup => [.recordCommit, .settingsEngine, .portGroup]

/-- The cyclic order of level 2: the ports after one, itself last (R155). -/
def portsAfter : Port → List Port
  | .a => [.b, .c, .a]
  | .b => [.c, .a, .b]
  | .c => [.a, .b, .c]

/-- The member a grant decision chooses: none while the engine is granted or nothing waits (R153, R154). -/
def State.grantee (s : State) : Option Member :=
  if s.sea.engine = .free then (membersAfter s.sea.last1).find? s.memberWaits else none

/-- The port level 2 chooses (R155). -/
def State.chosenPort (s : State) : Option Port :=
  match s.site.arbiterMode with
  | .rotating => (portsAfter s.sea.last2).find? fun p => (s.sitePort p).waits
  | .fixed => Port.all.find? fun p => (s.sitePort p).waits

/-- A grant begins: the member becomes the last served of level 1 (R154). -/
def beginGrant (m : Member) (s : State) : State := s.withSea { s.sea with last1 := m, engine := .granted m }

/-- The port chosen by level 2 becomes its last served (R155). -/
def servePort (p : Port) (s : State) : State := s.withSea { s.sea with last2 := p }

/-- A grant ends: the engine is free again (R153). -/
def endGrant (s : State) : State := s.withSea { s.sea with engine := .free }

/-! ### RECORD_COMMIT -/

/-- RECORD_COMMIT (R143, R153, R154): when the arbiter's decision is the record commit, one grant commits the oldest
vehicle of the queue. -/
def recordCommitGrant (s : State) : State :=
  if s.grantee = some .recordCommit then
    match s.rst.queue with
    | r :: queue => endGrant (commitRecord r queue (beginGrant .recordCommit s))
    | [] => s
  else s

/-- The meaning of RECORD_COMMIT. -/
def execRecordCommit (s : State) : Host.Outcome State Fault Refusal := .next (recordCommitGrant s)

end Sys2Proof.Machine
end

