-- ==== Sys2Proof/Machine/Builder.lean ====
section
/-! DEFINITION. The vehicle builders and the trigger outputs (chapter 5): openings, axle arrival, sealing and the
announcement, continuations, the loops, the lane mode, the close timer and the trigger pulse. -/

namespace Sys2Proof.Machine

/-! ### Triggers (R116) -/

/-- A trigger fired: the line goes high and the pulse timer restarts at 0 with the width in force (R116). -/
def fireTrigger (l : Lane) (s : State) : State :=
  s.withBuilder l { s.builder l with pulse := some ⟨0, (s.laneSet l).triggerWidth * 8⟩ }

/-- A trigger at an opening, in ON_OPEN or BOTH (R116). -/
def triggerOnOpen (l : Lane) (s : State) : State :=
  match (s.laneSet l).triggerMode with
  | .onOpen | .both => fireTrigger l s
  | .off | .onSuspect => s

/-- A trigger at a sealing with verdict SUSPECT, in ON_SUSPECT or BOTH (R116). -/
def triggerOnVerdict (l : Lane) (v : Verdict) (s : State) : State :=
  match (s.laneSet l).triggerMode, v with
  | .onSuspect, .suspect | .both, .suspect => fireTrigger l s
  | _, _ => s

/-- The trigger line's level (R116, R119). -/
def Builder.line (b : Builder) : Bool := b.pulse.isSome

/-! ### Sealing and announcement (R115, R117) -/

/-- The last vehicle number is never issued: a sealing that finds it takes no number (R115). -/
def numberLimit : Nat := 4294967295

/-- The announcement to the takers that need its number: commit queue, reference run unit, drift tracker (R117). -/
def announce (a : Announcement) (s : State) : State := driftTake a (runTake a (queueTake a s))

/-- A vehicle's sealing takes the number the counter holds and raises it by one, and the vehicle is announced; at the
counter's end no number is taken, nothing is announced and "record dropped" latches (R115). The trigger line is the last taker,
and fires at every sealing with verdict SUSPECT, numbered or not (R116, R117, log 12). -/
def numberAndAnnounce (a : Announcement) (s : State) : State :=
  triggerOnVerdict a.record.lane a.record.verdict
    (if s.vehicleNumber < numberLimit then announce a (s.withVehicleNumber (s.vehicleNumber + 1))
     else latchDetail .recordDropped s)

/-- A continuation of R104 that holds no axle: it is dropped when due to seal. -/
def Context.dropped (c : Context) : Bool := c.cont && c.axles.isEmpty

/-- The lane's vehicle sealed with `extra` flags, the context going on as `next` (R115); a continuation of R104 without
an axle is dropped instead and the context returns to IDLE (R104, log 13). -/
def sealInto (l : Lane) (extra : BitVec 24) (next : Context) (s : State) : State :=
  let c := s.ctx l
  if c.dropped then s.withCtx l .idle
  else numberAndAnnounce (announcementOf s l c extra s.vehicleNumber) (s.withCtx l next)

/-- LOOP_FAULT on a vehicle open on a lane that is in it (R92). -/
def faultFlag (s : State) (l : Lane) : BitVec 24 := flagIf (s.builder l).loopFault VFlag.loopFault

/-- The continuation that follows a LINK_LOSS or SETTINGS_CHANGED sealing: no axles, the same flag, state, kind, reference
instant and close timer as they stood, the current generation as stamp (R104). -/
def continuationOf (s : State) (l : Lane) (flag : BitVec 24) : Context :=
  { s.ctx l with axles := [], flags := flag ||| faultFlag s l, stamp := s.generation, cont := true }

/-- The lane's vehicle, if there is one, sealed with a disturbance flag and followed by a continuation (R102, R104). -/
def disturb (l : Lane) (flag : BitVec 24) (s : State) : State :=
  if (s.ctx l).state = .idle then s else sealInto l flag (continuationOf s l flag) s

/-! ### Opening a vehicle (R95) -/

/-- The close timer started: it expires after close delay × 8 strobes, the delay read now (R96). -/
def closeTimer (s : State) : Timer := ⟨0, s.site.closeDelay * 8⟩

/-- A loop vehicle's new context: OPEN with no axles (R95). -/
def loopContext (s : State) (l : Lane) : Context :=
  ⟨.open, true, [], faultFlag s l, 0, none, s.generation, s.sck.strobeTime, false⟩

/-- A loop-less vehicle's new context with its first axle: CLOSING, close timer started at the arrival (R95, R99). -/
def looplessContext (s : State) (l : Lane) (a : Axle) (flags : BitVec 24) : Context :=
  ⟨.closing, false, [⟨a, 0⟩], flags ||| faultFlag s l, 0, some (closeTimer s), s.generation, s.sck.strobeTime, false⟩

/-- A loop vehicle opened (R95). -/
def openLoopVehicle (l : Lane) (s : State) : State := triggerOnOpen l (s.withCtx l (loopContext s l))

/-- A loop-less vehicle opened by its first axle, with NO_LOOP (R95). -/
def openLooplessVehicle (l : Lane) (a : Axle) (s : State) : State :=
  triggerOnOpen l (s.withCtx l (looplessContext s l a VFlag.noLoop))

/-! ### Axle arrival (R97 to R100, R103) -/

/-- A loop-less vehicle in CLOSING or DEFERRED is CLOSING with its timer restarted after an axle; a loop vehicle stays as
it is (R96, R97). -/
def axleTimer (s : State) (c : Context) : Context :=
  match c.loopKind, c.state with
  | false, .closing | false, .deferred => { c with state := .closing, timer := some (closeTimer s) }
  | _, _ => c

/-- A vehicle split off with the arriving axle as its first: a loop vehicle in OPEN when the sealed one was OPEN, otherwise
a loop-less vehicle with NO_LOOP (R99). -/
def splitContext (s : State) (l : Lane) (a : Axle) : Context :=
  if (s.ctx l).state = .open then
    { loopContext s l with axles := [⟨a, 0⟩], flags := VFlag.split ||| faultFlag s l }
  else looplessContext s l a (VFlag.split ||| VFlag.noLoop)

/-- A thirteenth axle's continuation: CONTINUED, with state, kind, reference instant and timer kept (R100). -/
def truncatedContext (s : State) (l : Lane) (a : Axle) : Context :=
  axleTimer s { s.ctx l with axles := [⟨a, 0⟩], flags := VFlag.continued ||| faultFlag s l, cont := false }

/-- The arriving axle joined as the vehicle's newest, with its spacing (R97). -/
def joinedContext (s : State) (l : Lane) (a : Axle) (spacing : Nat) : Context :=
  axleTimer s { s.ctx l with axles := (s.ctx l).axles ++ [⟨a, spacing⟩] }

/-- An axle taken into the lane's context once its generation has been settled: it opens a loop-less vehicle in IDLE;
otherwise it splits (R99), truncates (R100) or joins (R97). The first axle of a vehicle has spacing 0 and is not tested. -/
def placeAxle (l : Lane) (a : Axle) (s : State) : State :=
  let c := s.ctx l
  if c.state = .idle then openLooplessVehicle l a s
  else
    match c.axles.getLast? with
    | none => s.withCtx l (joinedContext s l a 0)
    | some prev =>
      let spacing := axleSpacing prev.axle a
      if s.site.splitSpacing < spacing then triggerOnOpen l (sealInto l 0 (splitContext s l a) s)
      else if 12 ≤ c.axles.length then sealInto l VFlag.truncated (truncatedContext s l a) s
      else s.withCtx l (joinedContext s l a spacing)

/-- Whether a vehicle holds an axle with STRADDLE. -/
def Context.hasStraddle (c : Context) : Bool := c.axles.any fun h => hasAny h.axle.flags AFlag.straddle

/-- A builder told of a rise of the calibration generation (R103). -/
def riseNotice (affected : Bool) (l : Lane) (s : State) : State :=
  let c := s.ctx l
  if c.state = .idle then s
  else if affected || c.hasStraddle then disturb l VFlag.settingsChanged s
  else s.withCtx l { c with stamp := s.generation }

/-- Every builder told of a rise, with the lanes it affects, in lane order (R103). The lane order, and so which lane's vehicle
takes the lower number, is the model's choice: R115 allows either (log 36). -/
def riseNotices (affected : PerLane Bool) (s : State) : State :=
  Lane.all.foldl (fun s l => riseNotice (affected.get l) l s) s

/-- The generation an arriving axle is held against: the stamp, or in IDLE the generation an opening would take (R103). -/
def State.stampAt (s : State) (l : Lane) : Word32 :=
  if (s.ctx l).state = .idle then s.generation else (s.ctx l).stamp

/-- An axle of an older generation than the stamp: a vehicle that holds other axles is first sealed without it; the axle
then joins or opens a vehicle, whose stamp becomes the axle's generation and which is sealed with SETTINGS_CHANGED and
followed by a continuation of the current generation (R103). -/
def takeOlderAxle (l : Lane) (a : Axle) (s : State) : State :=
  let s := if (s.ctx l).axles.isEmpty then s else disturb l VFlag.settingsChanged s
  let s := placeAxle l a s
  disturb l VFlag.settingsChanged (s.withCtx l { s.ctx l with stamp := a.generation })

/-- An axle handed to a lane's builder: discarded in CLOSED (R94); otherwise settled against the stamp (R103) and placed
(R95, R97). A newer generation makes the builder take the rise first. -/
def axleArrival (l : Lane) (a : Axle) (s : State) : State :=
  if (s.builder l).mode = .closed then s
  else if a.generation = s.stampAt l then placeAxle l a s
  else if 0 < (a.generation - s.stampAt l).toInt then placeAxle l a (riseNotice (s.sst.riseLanes.get l) l s)
  else takeOlderAxle l a s

/-! ### Deferral (R98) -/

/-- Whether a lane's upstream pending list holds an entry with an instant earlier than the reference instant (R98). -/
def olderPending (s : State) (l : Lane) : Bool :=
  (s.former l).upstream.any fun e => decide (0 < fineSpan (s.ctx l).ref e.instant)

/-- The check of DEFERRED after a change of the upstream list: sealed when no older entry remains (R98). -/
def deferCheck (l : Lane) (s : State) : State :=
  if (s.ctx l).state = .deferred && !olderPending s l then sealInto l 0 .idle s else s

/-- The check of DEFERRED after an event of the axle formers has handed all its axles, on every lane whose upstream list
the event changed (R98, log 11). -/
def deferChecks (before s : State) : State :=
  Lane.all.foldl (fun t l => if (before.former l).upstream = (s.former l).upstream then t else deferCheck l t) s

/-- A vehicle whose close timer has expired: a loop-less vehicle takes 16 × the expiring strobe's number as its reference
instant (R98). -/
def expiredContext (s : State) (l : Lane) : Context :=
  let c := s.ctx l
  { c with ref := if c.loopKind then c.ref else fineOfScan s.sck.present, timer := none }

/-- A vehicle past its close timer: DEFERRED while an older entry is pending, otherwise sealed (R98). -/
def closeVehicle (l : Lane) (s : State) : State :=
  if olderPending s l then s.withCtx l { s.ctx l with state := .deferred } else sealInto l 0 .idle s

/-- The expiry of the close timer of a vehicle in CLOSING (R98). -/
def closeTimerExpiry (l : Lane) (s : State) : State :=
  if (s.ctx l).state = .closing && (s.ctx l).timer.any Timer.expired then closeVehicle l (s.withCtx l (expiredContext s l)) else s

/-! ### Notices (R101, R102) -/

/-- The abandonment notice: an open vehicle of the lane takes ABANDONED (R101). -/
def abandonmentNotice (l : Lane) (s : State) : State :=
  if (s.ctx l).state = .idle then s
  else s.withCtx l { s.ctx l with flags := (s.ctx l).flags ||| VFlag.abandoned }

/-- The link-loss notice: an open vehicle is sealed with LINK_LOSS and continued (R102, R104). -/
def linkLossNotice (l : Lane) (s : State) : State := disturb l VFlag.linkLoss s

/-! ### Loops (R91, R92, R96) -/

/-- The loop gone present as the vehicle context sees it: it opens a loop vehicle on an OPEN lane, or returns a CLOSING or
DEFERRED vehicle to OPEN as a loop vehicle (R95, R96). -/
def loopPresent (l : Lane) (s : State) : State :=
  let c := s.ctx l
  match c.state with
  | .idle => if (s.builder l).mode = .open then openLoopVehicle l s else s
  | .open => s
  | .closing | .deferred => s.withCtx l { c with state := .open, loopKind := true, timer := none }

/-- The loop gone absent as the vehicle context sees it: an OPEN vehicle becomes CLOSING with the loop-absent instant as
its reference and the close timer started (R96). -/
def loopAbsent (l : Lane) (s : State) : State :=
  let c := s.ctx l
  if c.state = .open then
    s.withCtx l { c with state := .closing, ref := fineOfScan (s.sck.present - 3), timer := some (closeTimer s) }
  else s

/-- The debounced loop change taken at the fourth differing sample; its edge scan is the present scan less 3 (R91). A lane
in LOOP_FAULT leaves it at the change to absent, which does not act on the context (R92). -/
def loopChange (l : Lane) (s : State) : State :=
  let b := s.builder l
  if b.pend < 4 then s
  else if b.present then
    let s' := s.withBuilder l { b with present := false, pend := 0, presentCount := 0, loopFault := false }
    if b.loopFault then s' else loopAbsent l s'
  else
    let s' := s.withBuilder l { b with present := true, pend := 0, presentCount := 0, went := some s.sck.present }
    if b.loopFault then s' else loopPresent l s'

/-- Strobes of presence at which a lane enters LOOP_FAULT (R92). -/
def loopFaultStrobes : Nat := 960000

/-- LOOP_FAULT entered: the detail latches, and an open vehicle takes LOOP_FAULT; one in OPEN becomes a loop-less vehicle in
CLOSING with its close timer started (R92, R96). -/
def loopFaultEntry (l : Lane) (s : State) : State :=
  let b := s.builder l
  if b.present && !b.loopFault && decide (loopFaultStrobes ≤ b.presentCount) then
    let flagged := { b.ctx with flags := b.ctx.flags ||| VFlag.loopFault }
    let c :=
      match b.ctx.state with
      | .idle => b.ctx
      | .open => { flagged with state := .closing, loopKind := false, timer := some (closeTimer s) }
      | .closing | .deferred => flagged
    latchDetail .loopFault (s.withBuilder l { b with loopFault := true, ctx := c })
  else s

/-! ### Lane mode (R93, R94) -/

/-- A lane taken to a mode: to CLOSED its vehicle is sealed with LANE_CLOSED and a run on it ends ABORTED; to OPEN a loop
vehicle opens at once when its loop is present and not in LOOP_FAULT; already in the mode, nothing (R93, R94, R139). -/
def setLaneMode (mode : LaneMode) (l : Lane) (s : State) : State :=
  let b := s.builder l
  if b.mode = mode then s
  else
    match mode with
    | .closed =>
      let s := if b.ctx.state = .idle then s else sealInto l VFlag.laneClosed .idle s
      let s := s.withBuilder l { s.builder l with mode := .closed }
      endRunIf (s.runActive l) .aborted s
    | .open =>
      let s := s.withBuilder l { b with mode := .open }
      if b.present && !b.loopFault then openLoopVehicle l s else s

/-! ### Trigger pulse -/

/-- The trigger line goes low at the strobe that completes the pulse (R116). -/
def triggerPulseEnd (l : Lane) (s : State) : State :=
  if (s.builder l).pulse.any Timer.expired then s.withBuilder l { s.builder l with pulse := none } else s

/-! ### What a strobe does to a builder -/

/-- One sample of the loop-presence input named by the lane's loop line (R91). -/
def loopSample (loops : BitVec 6) (line : Nat) : Bool := loops.getLsbD (line - 1)

/-- A builder at a strobe: the loop is sampled against the debounced state, the present time count runs while it is
present, and the close timer and the pulse timer advance (R91, R92, R96, R116). -/
def Builder.strobe (sample : Bool) (b : Builder) : Builder :=
  { b with
    pend := if sample = b.present then 0 else bump 4 b.pend
    presentCount := if b.present then bump loopFaultStrobes b.presentCount else b.presentCount
    ctx := { b.ctx with timer := b.ctx.timer.map Timer.tick }
    pulse := b.pulse.map Timer.tick }

/-! ### Meanings -/

/-- LOOP_CHANGE (R91). -/
def execLoopChange (l : Lane) (s : State) : Host.Outcome State Fault Refusal := .next (loopChange l s)
/-- LOOP_FAULT_ENTRY (R92). -/
def execLoopFaultEntry (l : Lane) (s : State) : Host.Outcome State Fault Refusal := .next (loopFaultEntry l s)
/-- CLOSE_TIMER_EXPIRY (R98). -/
def execCloseTimerExpiry (l : Lane) (s : State) : Host.Outcome State Fault Refusal := .next (closeTimerExpiry l s)
/-- TRIGGER_PULSE_END (R116). -/
def execTriggerPulseEnd (l : Lane) (s : State) : Host.Outcome State Fault Refusal := .next (triggerPulseEnd l s)

end Sys2Proof.Machine
end

