-- ==== Sys2Proof/Machine/Axle.lean ====
section
/-! DEFINITION. The axle formers (chapter 3): halves to row pulses, straddles, the upstream pending list, pairing and
speed, the load of a wheel, the combining of the rows, channel health, and the flush at link loss. -/

namespace Sys2Proof.Machine

/-! ### Row pulses -/

/-- The summary a slot holds. -/
def Slot.held : Slot → Option Summary
  | .empty => none
  | .open m _ => some m
  | .waiting m => some m

/-- The slot on the same row of the neighbouring lane that faces an edge half (R47); lane 1 left and lane 3 right have none. -/
def facing (c : Channel) : Option Channel :=
  match c.lane, c.side with
  | .one, .right => some ⟨.two, c.row, .left⟩
  | .two, .left => some ⟨.one, c.row, .right⟩
  | .two, .right => some ⟨.three, c.row, .left⟩
  | .three, .left => some ⟨.two, c.row, .right⟩
  | .one, .left => none
  | .three, .right => none

/-- The opposite slot: same row, other side, same lane (R45). -/
def opposite (c : Channel) : Channel := ⟨c.lane, c.row, c.side.other⟩

/-- Whether two centroid instants lie within 16 × W_c of each other, inclusive; W_c is read at the test (R45, R71). -/
def withinTolerance (s : State) (a b : Instant) : Bool := decide ((fineSpan a b).natAbs ≤ 16 * s.site.coincidence)

/-- A one-track row pulse: the one side of its half, at its centroid, not a straddle (R47). -/
def oneTrackPulse (m : Summary) : RowPulse :=
  match m.ch.side with
  | .left => ⟨m.ch.lane, m.ch.row, m.centroid, some m, none, false⟩
  | .right => ⟨m.ch.lane, m.ch.row, m.centroid, none, some m, false⟩

/-- An own-lane row pulse of two halves of one row (R46). -/
def pairedPulse (m n : Summary) : RowPulse :=
  match m.ch.side with
  | .left => ⟨m.ch.lane, m.ch.row, meanInstant m.centroid n.centroid, some m, some n, false⟩
  | .right => ⟨m.ch.lane, m.ch.row, meanInstant m.centroid n.centroid, some n, some m, false⟩

/-- A straddle row pulse: the right half of lane L is its left side, the left half of lane L + 1 its right side (R51). -/
def straddlePulse (owner : Lane) (m n : Summary) : RowPulse :=
  match m.ch.side with
  | .right => ⟨owner, m.ch.row, meanInstant m.centroid n.centroid, some m, some n, true⟩
  | .left => ⟨owner, m.ch.row, meanInstant m.centroid n.centroid, some n, some m, true⟩

/-- A lane's loop as the owner choice sees it: present, and the scan it last went present; in LOOP_FAULT it counts as
absent and never gone present (R50). -/
def ownerLoop (b : Builder) : Bool × Option Word32 := if b.loopFault then (false, none) else (b.present, b.went)

/-- The owner lane of a straddle between a lane and the next higher one, from their loops at that moment (R50). -/
def ownerLane (s : State) (low high : Lane) : Lane :=
  let (pl, wl) := ownerLoop (s.builder low)
  let (ph, wh) := ownerLoop (s.builder high)
  if pl && !ph then low
  else if ph && !pl then high
  else
    match wl, wh with
    | some a, some b => if scanSpan s.sck.present b < scanSpan s.sck.present a then high else low
    | none, some _ => high
    | _, none => low

/-- The owner of the straddle of two facing edge halves. -/
def straddleOwner (s : State) (m n : Summary) : Lane :=
  if m.ch.lane.number < n.ch.lane.number then ownerLane s m.ch.lane n.ch.lane else ownerLane s n.ch.lane m.ch.lane

/-- The summaries of a row pulse. -/
def RowPulse.summaries (r : RowPulse) : List Summary := r.left.toList ++ r.right.toList

/-! ### Channel health (R68, R69) -/

/-- The miss count at which a channel is SUSPECT_SILENT (R69). -/
def silentCount : Nat := 32

/-- Whether a channel is SUSPECT_SILENT (R69). -/
def AxleFormer.silent (f : AxleFormer) (r : Row) (sd : Side) : Bool := decide (silentCount ≤ f.miss.get r sd)

/-- A channel missing from a present row counted, and "channel silent" latched at entry to SUSPECT_SILENT; a disabled
channel's count is held (R68, R69). -/
def countMiss (c : Channel) (s : State) : State :=
  if (s.channelSet c).enabled then
    let f := s.former c.lane
    let n := f.miss.get c.row c.side
    latchDetailIf (decide (n < silentCount) && decide (silentCount ≤ n + 1)) .channelSilent
      (s.withFormer c.lane { f with miss := f.miss.set c.row c.side (bump silentCount n) })
  else s

/-- The absent halves of a row pulse counted (R68). -/
def countRow (r : RowPulse) (s : State) : State :=
  let s := if r.left.isNone then countMiss ⟨r.lane, r.row, .left⟩ s else s
  if r.right.isNone then countMiss ⟨r.lane, r.row, .right⟩ s else s

/-- The channels counted at an axle handed on; an axle with STRADDLE changes none (R68). -/
def countMisses (a : Axle) (rows : List RowPulse) (s : State) : State :=
  if hasAny a.flags AFlag.straddle then s else rows.foldl (fun s r => countRow r s) s

/-- A summary's arrival clears its channel's miss count and SUSPECT_SILENT (R45, R69). -/
def clearMiss (c : Channel) (s : State) : State :=
  let f := s.former c.lane
  s.withFormer c.lane { f with miss := f.miss.set c.row c.side 0 }

/-! ### Axles (R57, R59 to R66) -/

/-- The site time of an axle: that of its earliest contributing summary, whose start scan lies the greatest span before
the present (R66). -/
def earliestTime (present : Word32) : List Summary → SiteTime
  | [] => .zero
  | [m] => m.time
  | m :: n :: rest =>
    if scanSpan present m.startScan < scanSpan present n.startScan then earliestTime present (n :: rest)
    else earliestTime present (m :: rest)

/-- An axle handed to its lane's vehicle builder, then counted for channel health (R66 to R68). -/
def handAxle (l : Lane) (a : Axle) (rows : List RowPulse) (s : State) : State := countMisses a rows (axleArrival l a s)

/-- The unpaired axle of one row pulse (R57). -/
def unpairedAxle (s : State) (r : RowPulse) : Axle :=
  let ms := r.summaries
  { instant    := r.instant
    time       := earliestTime s.sck.present ms
    speed      := none
    left       := 0
    right      := 0
    wU         := 0
    wD         := 0
    generation := s.generation
    flags      := AFlag.unpaired ||| flagIf r.straddle AFlag.straddle |||
      flagIf (ms.any fun m => m.slip) AFlag.slip ||| flagIf (ms.any fun m => m.sat) AFlag.saturated }

/-- A row pulse left without a partner, handed on as an unpaired axle (R57). -/
def handUnpaired (r : RowPulse) (s : State) : State := handAxle r.lane (unpairedAxle s r) [r] s

/-- Row pulses handed on as unpaired axles in the order given (R67). -/
def handUnpairedAll (rs : List RowPulse) (s : State) : State := rs.foldl (fun s r => handUnpaired r s) s

/-- The speed over a span of Δ sixteenths: row spacing × 12,800 / Δ, rounded half up (R59). -/
def speedOf (rowSpacing delta : Nat) : Nat := roundDiv (rowSpacing * 12800) delta

/-- The candidate speed of a U entry for a D row pulse: Δ greater than 0 and the speed from 56 to 6,945 (R56). -/
def candidateSpeed (rowSpacing : Nat) (d u : RowPulse) : Option Nat :=
  let delta := fineSpan d.instant u.instant
  if 0 < delta then
    let v := speedOf rowSpacing delta.toNat
    if 56 ≤ v ∧ v ≤ 6945 then some v else none
  else none

/-- The oldest candidate of the upstream list: the entries older than it, the entry with its speed, the entries younger (R56). -/
def findPartner (rowSpacing : Nat) (d : RowPulse) : List RowPulse → Option (List RowPulse × RowPulse × Nat × List RowPulse)
  | [] => none
  | u :: rest =>
    match candidateSpeed rowSpacing d u with
    | some v => some ([], u, v, rest)
    | none => (findPartner rowSpacing d rest).map fun r => (u :: r.1, r.2)

/-- The result of a load stage: kept to 32,767 kg, with whether it was saturated (R63). -/
def saturateLoad (x : Nat) : Nat × Bool := (min 32767 x, decide (32767 < x))

/-- The load of one wheel through stages 1 to 5, with whether any stage saturated (R61 to R63). -/
def wheelLoad (area speed gain f kT drift : Nat) : Nat × Bool :=
  let w1 := saturateLoad ((area * speed * gain + 8388608) / 16777216)
  let w2 := saturateLoad (factorMul w1.1 f)
  let w3 := saturateLoad (factorMul w2.1 kT)
  let w4 := saturateLoad (factorMul w3.1 drift)
  (w4.1, w1.2 || w2.2 || w3.2 || w4.2)

/-- The temperature factor of a lane: its temperature curve at the lane temperature, or 4,096 with correction disabled (R62). -/
def temperatureFactor (s : State) (l : Lane) : Nat :=
  let cfg := s.laneSet l
  if cfg.tempCorrection then (readCurve cfg.tempCurve (s.laneTemp l).value).toNat else 4096

/-- The load of one side of a row pulse, with the owner lane's curves and drift factor and the channel's own gain (R61, R62). -/
def sideLoad (s : State) (l : Lane) (row : Row) (v : Nat) (m : Summary) : Nat × Bool :=
  wheelLoad m.area v (s.channelSet m.ch).gain (readCurve ((s.laneSet l).speedCurve row) v).toNat
    (temperatureFactor s l) (s.sst.active.drift.get l)

/-- The side load combined from the two rows: the mean rounded half up, the one present, or 0 (R64). -/
def combineSide : Option Nat → Option Nat → Nat
  | some a, some b => (a + b + 1) / 2
  | some a, none => a
  | none, some b => b
  | none, none => 0

/-- Present in one row only (R64). -/
def inOneRow (a b : Option Nat) : Bool := a.isSome != b.isSome

/-- Present in neither row (R64). -/
def inNoRow (a b : Option Nat) : Bool := a.isNone && b.isNone

/-- The totals of the two rows over the sides present in both (R65). -/
def commonTotals (lu ld ru rd : Option Nat) : Nat × Nat :=
  let left := match lu, ld with | some a, some b => (a, b) | _, _ => (0, 0)
  let right := match ru, rd with | some a, some b => (a, b) | _, _ => (0, 0)
  (left.1 + right.1, left.2 + right.2)

/-- ROW_DISAGREE: |U_c − D_c| × 200 is greater than row agreement × (U_c + D_c). With no common side the totals are 0 and
the flag is clear (R65). -/
def rowsDisagree (agreement u d : Nat) : Bool := decide (agreement * (u + d) < ((u : Int) - d).natAbs * 200)

/-- The paired axle of a U row pulse and a D row pulse at their speed (R56, R59 to R66). -/
def pairedAxle (s : State) (l : Lane) (u d : RowPulse) (v : Nat) : Axle :=
  let lu := u.left.map (sideLoad s l .u v)
  let ru := u.right.map (sideLoad s l .u v)
  let ld := d.left.map (sideLoad s l .d v)
  let rd := d.right.map (sideLoad s l .d v)
  let w (x : Option (Nat × Bool)) : Option Nat := x.map fun y => y.1
  let ms := u.summaries ++ d.summaries
  let common := commonTotals (w lu) (w ld) (w ru) (w rd)
  { instant    := u.instant
    time       := earliestTime s.sck.present ms
    speed      := some v
    left       := combineSide (w lu) (w ld)
    right      := combineSide (w ru) (w rd)
    wU         := (w lu).getD 0 + (w ru).getD 0
    wD         := (w ld).getD 0 + (w rd).getD 0
    generation := s.generation
    flags      :=
      flagIf (inOneRow (w lu) (w ld) || inOneRow (w ru) (w rd)) AFlag.singleRow |||
      flagIf (inNoRow (w lu) (w ld) || inNoRow (w ru) (w rd)) AFlag.oneTrack |||
      flagIf (u.straddle || d.straddle) AFlag.straddle |||
      flagIf (ms.any fun m => m.slip) AFlag.slip |||
      flagIf ((ms.any fun m => m.sat) || [lu, ru, ld, rd].any fun x => x.any fun y => y.2) AFlag.saturated |||
      flagIf (isCreep v || isOverspeed v) AFlag.speedRange |||
      flagIf (rowsDisagree s.site.rowAgreement common.1 common.2) AFlag.rowDisagree }

/-! ### The upstream pending list (R53 to R56) -/

/-- A row pulse inserted in instant order: after every entry earlier than or equal to it, before every later one (R54). -/
def insertByInstant (r : RowPulse) : List RowPulse → List RowPulse
  | [] => [r]
  | e :: rest => if 0 ≤ fineSpan r.instant e.instant then e :: insertByInstant r rest else r :: e :: rest

/-- The most entries a lane's upstream pending list holds (R54). -/
def upstreamCapacity : Nat := 8

/-- A U row pulse inserted into its lane's list; a list already full forces out the oldest of the nine, which becomes an
unpaired axle (R54). -/
def insertUpstream (r : RowPulse) (s : State) : State :=
  match insertByInstant r (s.former r.lane).upstream with
  | [] => s
  | oldest :: rest =>
    if upstreamCapacity < rest.length + 1 then handUnpaired oldest (s.withUpstream r.lane rest)
    else s.withUpstream r.lane (oldest :: rest)

/-- A D row pulse paired with the oldest candidate: entries older than it leave as unpaired axles, oldest first, and the
pair forms an axle; without a candidate the row pulse becomes an unpaired axle (R56). -/
def pairDownstream (d : RowPulse) (s : State) : State :=
  match findPartner (s.laneSet d.lane).rowSpacing d (s.former d.lane).upstream with
  | none => handUnpaired d s
  | some (older, u, v, younger) =>
    let s := handUnpairedAll older (s.withUpstream d.lane younger)
    handAxle d.lane (pairedAxle s d.lane u d v) [u, d] s

/-- A row pulse goes on: U into the upstream list, D to pairing at once (R53). -/
def takeRowPulse (r : RowPulse) (s : State) : State :=
  match r.row with
  | .u => insertUpstream r s
  | .d => pairDownstream r s

/-- Row pulses taken in the order formed. -/
def takeRowPulses (rs : List RowPulse) (s : State) : State := rs.foldl (fun s r => takeRowPulse r s) s

/-! ### Halves (R45 to R51) -/

/-- A half leaves its slot as a one-track row pulse (R47). -/
def leaveOneTrack (m : Summary) (s : State) : State := takeRowPulse (oneTrackPulse m) (s.withSlot m.ch .empty)

/-- A half held WAITING in a slot becomes a one-track row pulse, since what it waited for has left (R49, log 10). -/
def releaseWaiting (c : Option Channel) (s : State) : State :=
  match c.map s.slot with
  | some (.waiting m) => leaveOneTrack m s
  | _ => s

/-- The half whose window has ended, or which is displaced, leaves its slot, or waits (R47, R48). -/
def settleHalf (displaced : Bool) (m : Summary) (s : State) : State :=
  match (facing m.ch).map s.slot with
  | some (.open n _) =>
    if withinTolerance s m.centroid n.centroid && !displaced then s.withSlot m.ch (.waiting m)
    else leaveOneTrack m s
  | some (.waiting n) =>
    if withinTolerance s m.centroid n.centroid then
      takeRowPulse (straddlePulse (straddleOwner s m n) m n) ((s.withSlot m.ch .empty).withSlot n.ch .empty)
    else releaseWaiting (facing m.ch) (leaveOneTrack m s)
  | some .empty => leaveOneTrack m s
  | none => leaveOneTrack m s

/-- An older half of the same channel displaced by a new summary (R45). -/
def displace (c : Channel) (s : State) : State :=
  match s.slot c with
  | .empty => s
  | .open m _ => settleHalf true m s
  | .waiting m => leaveOneTrack m s

/-- A summary enters its own slot as OPEN, its window end the present scan plus W_c (R45). -/
def enterSlot (m : Summary) (s : State) : State :=
  s.withSlot m.ch (.open m (s.sck.present + BitVec.ofNat 32 s.site.coincidence))

/-- The own-lane pairing of a new summary with the half of the opposite slot; a half of the neighbouring lane that waited
for that half becomes a one-track row pulse (R45, R46, R49). That the paired row pulse is taken first and the released one after
it is the model's choice (log 38). -/
def pairOwnLane (m n : Summary) (wasOpen : Bool) (s : State) : State :=
  let s := takeRowPulse (pairedPulse m n) (s.withSlot n.ch .empty)
  if wasOpen then releaseWaiting (facing n.ch) s else s

/-- A summary reaching its axle former (R45). -/
def takeSummary (m : Summary) (s : State) : State :=
  let s := clearMiss m.ch s
  let enter (s : State) : State := enterSlot m (displace m.ch s)
  match s.slot (opposite m.ch) with
  | .open n _ => if withinTolerance s m.centroid n.centroid then pairOwnLane m n true s else enter s
  | .waiting n => if withinTolerance s m.centroid n.centroid then pairOwnLane m n false s else enter s
  | .empty => enter s

/-- A summary's arrival as one event of the axle former, with the deferral checks after it (R45, R98). -/
def summaryArrival (m : Summary) (s : State) : State := deferChecks s (takeSummary m s)

/-- The window end of the OPEN half in a slot, at the strobe whose number equals its window end scan (R47, R98). -/
def halfWindowEnd (c : Channel) (s : State) : State :=
  match s.slot c with
  | .open m windowEnd => if windowEnd = s.sck.present then deferChecks s (settleHalf false m s) else s
  | _ => s

/-! ### Expiry (R55) -/

/-- The expiry limit E: row spacing × 12,800 / 56 sixteenths, rounded up (R55). -/
def expiryLimit (rowSpacing : Nat) : Nat := (rowSpacing * 12800 + 55) / 56

/-- A former at a strobe: the expiry limit is worked out from the row spacing in the active image (R55, R71). -/
def AxleFormer.strobe (rowSpacing : Nat) (f : AxleFormer) : AxleFormer := { f with limit := expiryLimit rowSpacing }

/-- Whether an entry's age at the last strobe exceeds that strobe's expiry limit; a span read as negative is no age (R44, R55). -/
def isExpired (s : State) (l : Lane) (e : RowPulse) : Bool :=
  decide (((s.former l).limit : Int) < fineSpan (fineOfScan s.sck.present) e.instant)

/-- Every expired entry of a lane's list leaves, oldest first, as an unpaired axle (R55, R98). -/
def upstreamExpiry (l : Lane) (s : State) : State :=
  let list := (s.former l).upstream
  if list.any (isExpired s l) then
    deferChecks s (handUnpairedAll (list.filter (isExpired s l)) (s.withUpstream l (list.filter fun e => !isExpired s l e)))
  else s

/-! ### Link loss (R70) -/

/-- The halves held in a lane's slots as one-track row pulses, in channel order. -/
def heldHalves (f : AxleFormer) : List RowPulse :=
  ([f.slots.uLeft, f.slots.uRight, f.slots.dLeft, f.slots.dRight].filterMap Slot.held).map oneTrackPulse

/-- Row pulses inserted one by one in instant order (R70). -/
def insertAll (rs list : List RowPulse) : List RowPulse := rs.foldl (fun list r => insertByInstant r list) list

/-- The flush of an axle former at link loss: every half and every U entry becomes an unpaired axle, handed in order of
instant; then the notice goes to the vehicle builder, and last comes the check of DEFERRED that a change of the list calls for,
which ends a continuation in DEFERRED (R70, R98, R102, R104, log 11). -/
def flushFormer (l : Lane) (s : State) : State :=
  let f := s.former l
  let rows := insertAll (heldHalves f) f.upstream
  deferChecks s (linkLossNotice l (handUnpairedAll rows (s.withFormer l { f with slots := .all .empty, upstream := [] })))

/-! ### Meanings -/

/-- HALF_WINDOW_END (R47). -/
def execHalfWindowEnd (c : Channel) (s : State) : Host.Outcome State Fault Refusal := .next (halfWindowEnd c s)
/-- UPSTREAM_EXPIRY (R55). -/
def execUpstreamExpiry (l : Lane) (s : State) : Host.Outcome State Fault Refusal := .next (upstreamExpiry l s)

end Sys2Proof.Machine
end

