-- ==== Sys2Proof/Machine/Conditioner.lean ====
section
/-! DEFINITION. The channel conditioners (chapter 2): the filter, the baseline, the detector at each scan (R43), and the
events a scan makes due: ACQUIRE and RECOVER completing, a pulse ending and a pulse abandoned. -/

namespace Sys2Proof.Machine

/-! ### The filter (R23, R24) -/

/-- The history a sample is filtered over: an empty one is first filled with the sample (R24). -/
def primed (x : Int) (hist : List Int) : List Int := if hist.isEmpty then List.replicate 10 x else hist

/-- The sample j scans before the current one; the history holds the newest first. -/
def past (hist : List Int) (j : Nat) : Int := hist.getD (j - 1) 0

/-- The filter's output before saturation (R23). -/
def firRaw (fir : Fir) (x : Int) (hist : List Int) : Int :=
  (fir.c0 * (x + past hist 10) + fir.c1 * (past hist 1 + past hist 9) + fir.c2 * (past hist 2 + past hist 8) +
    fir.c3 * (past hist 3 + past hist 7) + fir.c4 * (past hist 4 + past hist 6) + fir.c5 * past hist 5 + 2048) / 4096

/-- The filter's output, saturated to −32,768 to 32,767 (R23). -/
def firOut (raw : Int) : Int := clampInt (-32768) 32767 raw

/-- FIR-saturated: the unsaturated result lies outside the range (R23). -/
def firSaturated (raw : Int) : Bool := decide (raw < -32768) || decide (32767 < raw)

/-! ### The baseline (R26) -/

/-- The baseline b of b64 (R26). -/
def Conditioner.baseline (c : Conditioner) : Int := c.b64 / 64

/-- The baseline's slow step (R26). -/
def slowStep (b64 y : Int) : Int := b64 + (64 * y - b64) / 64

/-- The baseline's fast step (R26). -/
def fastStep (b64 y : Int) : Int := b64 + (64 * y - b64) / 8

/-! ### The accumulators (R29) -/

/-- A scan below T_off into the tentative part (R29, R31). -/
def Tentative.add (d j : Int) (sat slip : Bool) (t : Tentative) : Tentative :=
  ⟨t.area + d, t.moment + j * d, t.sat || sat, t.slip || slip⟩

/-- A pulse scan into the committed part, the tentative part merged first (R29, R31). -/
def Committed.add (t : Tentative) (d : Int) (j : Nat) (sat slip : Bool) (c : Committed) : Committed :=
  ⟨c.area + t.area + d, c.moment + t.moment + j * d, max c.peak d, j, c.sat || t.sat || sat, c.slip || t.slip || slip⟩

/-! ### One scan (R43) -/

/-- A scan as it reaches the detector: filter output, deviation, saturated and SLIP marks, scan number and site time. -/
structure Taken where
  y    : Int
  d    : Int
  sat  : Bool
  slip : Bool
  scan : Word32
  time : SiteTime
deriving DecidableEq, Repr

/-- A scan in ACQUIRE: the entry scan seeds the baseline, each later one takes a fast step; the 512th makes the completion
due (R26, R27). -/
def Conditioner.acquireScan (k : Taken) (c : Conditioner) : Conditioner :=
  { c with
    b64 := if c.acq = 0 then 64 * k.y else fastStep c.b64 k.y
    acq := bump 512 c.acq
    due := if 512 ≤ c.acq + 1 then .acquireComplete else c.due }

/-- A scan in RECOVER: a fast step; the 256th makes the completion due (R33). -/
def Conditioner.recoverScan (k : Taken) (c : Conditioner) : Conditioner :=
  { c with
    b64 := fastStep c.b64 k.y
    recCount := bump 256 c.recCount
    due := if 256 ≤ c.recCount + 1 then .recoverComplete else c.due }

/-- A scan in IDLE: above T_on it starts a pulse and is its first pulse scan; otherwise the baseline takes its slow step (R28). -/
def Conditioner.idleScan (cfg : ChannelSettings) (k : Taken) (c : Conditioner) : Conditioner :=
  if (cfg.tOn : Int) < k.d then
    { c with
      state := .pulse, startScan := k.scan, startTime := k.time, tail := 0
      com := ⟨k.d, 0, k.d, 0, k.sat, k.slip⟩, ten := .clear }
  else { c with b64 := slowStep c.b64 k.y }

/-- The span of a scan at which a pulse is abandoned (R30). -/
def abandonSpan : Nat := 4000

/-- A scan in PULSE or TAIL: the length check comes first; at or above T_off it is a pulse scan; below it goes to the
tentative part, and the H-th consecutive one ends the pulse (R29 to R31). -/
def Conditioner.pulseScan (cfg : ChannelSettings) (k : Taken) (c : Conditioner) : Conditioner :=
  let j := scanSpan k.scan c.startScan
  if abandonSpan ≤ j then { c with due := .abandon }
  else if (cfg.tOff : Int) ≤ k.d then
    { c with state := .pulse, tail := 0, com := c.com.add c.ten k.d j k.sat k.slip, ten := .clear }
  else if cfg.hold ≤ c.tail + 1 then { c with due := .pulseEnd }
  else { c with state := .tail, tail := c.tail + 1, ten := c.ten.add k.d j k.sat k.slip }

/-- The detector's action at a scan, by its state (R26 to R33). -/
def Conditioner.detect (cfg : ChannelSettings) (k : Taken) (c : Conditioner) : Conditioner :=
  match c.state with
  | .acquire => c.acquireScan k
  | .idle => c.idleScan cfg k
  | .pulse | .tail => c.pulseScan cfg k
  | .recover => c.recoverScan k
  | .disabled => c

/-- A delivered scan at a conditioner, as one step in the order of R43; a disabled one processes none (R26, R40). What was
due before it has been taken (log 2). -/
def Conditioner.scan (fir : Fir) (cfg : ChannelSettings) (x : Int) (overrange slip : Bool) (n : Word32) (t : SiteTime)
    (c : Conditioner) : Conditioner :=
  if c.state = .disabled then c
  else
    let hist := primed x c.hist
    let raw := firRaw fir x hist
    let y := firOut raw
    { c with hist := x :: hist.take 9, due := .none }.detect cfg ⟨y, y - c.baseline, firSaturated raw || overrange, slip, n, t⟩

/-- A delivered scan at all twelve conditioners (R18, R43). -/
def conditionersScan (d : Scan) (slip : Bool) (n : Word32) (t : SiteTime) (s : State) : State :=
  s.withCc (mapCh (fun c q =>
    q.scan (s.laneSet c.lane).fir (s.channelSet c) (getCh d.samples c).toInt (d.status.getLsbD c.index) slip n t) s.cc)

/-! ### Events -/

/-- The accumulators and the tail count cleared, in a new state with nothing due (R34, R30). A link loss or a commit that does
this to a pulse already ended or over-long, its PULSE_END or PULSE_ABANDONED still to be taken, discards that event: no summary,
no notice. That is the model's choice (log 37). -/
def Conditioner.leavePulse (state : Detector) (c : Conditioner) : Conditioner :=
  { c with state := state, com := .clear, ten := .clear, tail := 0, due := .none }

/-- ACQUIRE entered with the acquire count at 0, any pulse discarded (R27, R32, R40). -/
def Conditioner.enterAcquire (c : Conditioner) : Conditioner := { c.leavePulse .acquire with acq := 0 }

/-- The link-loss notice: any pulse is discarded, the history is marked empty and the conditioner waits in ACQUIRE; one in
DISABLED stays (R32). -/
def Conditioner.linkLoss (c : Conditioner) : Conditioner :=
  if c.state = .disabled then c else { c.enterAcquire with hist := [] }

/-- The 512th scan's completion: IDLE (R27). -/
def acquireComplete (ch : Channel) (s : State) : State :=
  let c := s.conditioner ch
  if c.due = .acquireComplete then s.withConditioner ch { c with state := .idle, due := .none } else s

/-- The 256th scan's completion: IDLE (R33). -/
def recoverComplete (ch : Channel) (s : State) : State :=
  let c := s.conditioner ch
  if c.due = .recoverComplete then s.withConditioner ch { c with state := .idle, due := .none } else s

/-- The abandonment of a pulse: accumulators cleared, RECOVER with count 0, no summary, and the notice to the builder of the
channel's lane (R30, R101). -/
def pulseAbandoned (ch : Channel) (s : State) : State :=
  let c := s.conditioner ch
  if c.due = .abandon then
    abandonmentNotice ch.lane (s.withConditioner ch { c.leavePulse .recover with recCount := 0 })
  else s

/-- The duration of a pulse: the last pulse scan offset plus one (R34). -/
def Committed.duration (c : Committed) : Nat := c.lastOff + 1

/-- The centroid offset in sixteenths of a scan, kept within 0 and 16 × (duration − 1) (R36). -/
def Committed.cf (c : Committed) : Nat := (clampInt 0 (16 * c.lastOff) (16 * c.moment / c.area)).toNat

/-- The centroid instant: start scan × 16 + cf − 80, modulo 2^32 × 16 (R36). -/
def centroidInstant (start : Word32) (cf : Nat) : Instant := fineOfScan start + BitVec.ofNat 36 cf - 80

/-- The summary of an ended pulse; none for a noise pulse (duration below 3) or a void one (area 0 or less) (R34 to R38). -/
def Conditioner.summary (ch : Channel) (c : Conditioner) : Option Summary :=
  if c.com.duration < 3 then none
  else if c.com.area ≤ 0 then none
  else some
    { ch        := ch
      area      := c.com.area.toNat
      peak      := c.com.peak
      dur       := c.com.duration
      startScan := c.startScan
      cf        := c.com.cf
      centroid  := centroidInstant c.startScan c.com.cf
      time      := c.startTime
      sat       := c.com.sat
      slip      := c.com.slip }

/-- A pulse's end: the accumulators are cleared, the state is IDLE, and a summary, if one is built, goes to the axle former
of the lane (R34, R38). -/
def pulseEnd (ch : Channel) (s : State) : State :=
  let c := s.conditioner ch
  if c.due = .pulseEnd then
    let s := s.withConditioner ch (c.leavePulse .idle)
    match c.summary ch with
    | some m => summaryArrival m s
    | none => s
  else s

/-! ### Meanings -/

/-- ACQUIRE_COMPLETE (R27). -/
def execAcquireComplete (ch : Channel) (s : State) : Host.Outcome State Fault Refusal := .next (acquireComplete ch s)
/-- RECOVER_COMPLETE (R33). -/
def execRecoverComplete (ch : Channel) (s : State) : Host.Outcome State Fault Refusal := .next (recoverComplete ch s)
/-- PULSE_END (R34). -/
def execPulseEnd (ch : Channel) (s : State) : Host.Outcome State Fault Refusal := .next (pulseEnd ch s)
/-- PULSE_ABANDONED (R30). -/
def execPulseAbandoned (ch : Channel) (s : State) : Host.Outcome State Fault Refusal := .next (pulseAbandoned ch s)

end Sys2Proof.Machine
end

