-- ==== Sys2Proof/Machine/Items.lean ====
section
/-! DEFINITION. The settings items as WRITE SETTING, READ SETTING and COMMIT name them (R186): item ids, indexes and
extents, the forms and lengths of values, the ranges of the settings tables, and what belongs to a lane (R178). -/

namespace Sys2Proof.Machine

/-! ### Names (R186) -/

/-- An item with its index. -/
inductive Item where
  | bufferOffset
  | linkMode
  | fir (l : Lane)
  | tOn (c : Channel)
  | tOff (c : Channel)
  | hold (c : Channel)
  | enable (c : Channel)
  | gain (c : Channel)
  | rowSpacing (l : Lane)
  | speedCurve (l : Lane) (r : Row)
  | tempCurve (l : Lane)
  | tempCorrection (l : Lane)
  | coincidence
  | rowAgreement
  | probeCurve (p : Probe)
  | openT (p : Probe)
  | shortT (p : Probe)
  | probeMap (l : Lane)
  | spikeLimit
  | loopLine (l : Lane)
  | closeDelay
  | splitSpacing
  | groupSpacing
  | tolerance
  | classRuleCount
  /-- Rule n of the class table; items name 1 to 32. -/
  | classRule (n : Nat)
  | unclassified
  | triggerMode (l : Lane)
  | triggerWidth (l : Lane)
  | driftMode (l : Lane)
  | autoDrift
  | refClass (l : Lane)
  | refGrossMin (l : Lane)
  | driftTarget (l : Lane)
  | arbiterMode
  | unitAddress
  | groupAddress
  | groupMask
  | groupEnable (p : Port)
  | broadcast (p : Port)
  | lineRate (p : Port)
  | privileges (p : Port)
deriving DecidableEq, Repr

/-- The channel of an index 0 to 11. -/
def channelOf? (n : Nat) : Option Channel := Channel.all[n]?

/-- The lane and row of a speed curve's index 2 × (lane − 1) + row (R186). -/
def speedCurveOf? (n : Nat) : Option Item :=
  (Lane.ofNumber? (n / 2 + 1)).map fun l => .speedCurve l (if n % 2 = 0 then .u else .d)

/-- A site item: its index is 0 (R186). -/
def siteItem (i : Item) (index : Nat) : Option Item := if index = 0 then some i else none

/-- The item of an id and index; none for an id absent from the tables or an index outside the item's extent (R186). -/
def Item.ofId? (id index : Nat) : Option Item :=
  match id with
  | 16 => siteItem .bufferOffset index
  | 17 => siteItem .linkMode index
  | 32 => (Lane.ofNumber? index).map .fir
  | 33 => (channelOf? index).map .tOn
  | 34 => (channelOf? index).map .tOff
  | 35 => (channelOf? index).map .hold
  | 36 => (channelOf? index).map .enable
  | 48 => (channelOf? index).map .gain
  | 49 => (Lane.ofNumber? index).map .rowSpacing
  | 50 => speedCurveOf? index
  | 51 => (Lane.ofNumber? index).map .tempCurve
  | 52 => (Lane.ofNumber? index).map .tempCorrection
  | 53 => siteItem .coincidence index
  | 54 => siteItem .rowAgreement index
  | 64 => (Probe.ofNumber? index).map .probeCurve
  | 65 => (Probe.ofNumber? index).map .openT
  | 66 => (Probe.ofNumber? index).map .shortT
  | 67 => (Lane.ofNumber? index).map .probeMap
  | 68 => siteItem .spikeLimit index
  | 80 => (Lane.ofNumber? index).map .loopLine
  | 81 => siteItem .closeDelay index
  | 82 => siteItem .splitSpacing index
  | 83 => siteItem .groupSpacing index
  | 84 => siteItem .tolerance index
  | 85 => siteItem .classRuleCount index
  | 86 => if 1 ≤ index ∧ index ≤ 32 then some (.classRule index) else none
  | 87 => siteItem .unclassified index
  | 88 => (Lane.ofNumber? index).map .triggerMode
  | 89 => (Lane.ofNumber? index).map .triggerWidth
  | 96 => (Lane.ofNumber? index).map .driftMode
  | 97 => siteItem .autoDrift index
  | 98 => (Lane.ofNumber? index).map .refClass
  | 99 => (Lane.ofNumber? index).map .refGrossMin
  | 100 => (Lane.ofNumber? index).map .driftTarget
  | 112 => siteItem .arbiterMode index
  | 128 => siteItem .unitAddress index
  | 129 => siteItem .groupAddress index
  | 130 => siteItem .groupMask index
  | 131 => (Port.ofNumber? index).map .groupEnable
  | 132 => (Port.ofNumber? index).map .broadcast
  | 133 => (Port.ofNumber? index).map .lineRate
  | 134 => (Port.ofNumber? index).map .privileges
  | _ => none

/-! ### Forms and lengths of values (R186) -/

/-- The forms a value takes. -/
inductive Form where
  | number | choice | fir | curve | probeMap | classRule | limits
deriving DecidableEq, Repr

/-- The form of an item id's values; none for an unknown id. -/
def formOf? (id : Nat) : Option Form :=
  match id with
  | 17 | 36 | 52 | 88 | 96 | 97 | 112 | 131 | 132 | 133 | 134 => some .choice
  | 32 => some .fir
  | 50 | 51 | 64 => some .curve
  | 67 => some .probeMap
  | 86 => some .classRule
  | 87 => some .limits
  | 16 | 33 | 34 | 35 | 48 | 49 | 53 | 54 | 65 | 66 | 68 | 80 | 81 | 82 | 83 | 84 | 85 | 89 | 98 | 99 | 100 | 128 | 129
  | 130 => some .number
  | _ => none

/-- The length of a value of a form; a curve's by its point count, a class rule's by its window count. -/
def Form.length (f : Form) (v : List Byte) : Nat :=
  match f with
  | .number => 4
  | .choice => 1
  | .fir => 12
  | .curve => 1 + 6 * field v 0 1
  | .probeMap => 2
  | .classRule => 23 + 4 * field v 2 1
  | .limits => 12

/-- The length check of WRITE SETTING (R183); an unknown item id declares no length and any is let through to the
request's own check, which refuses it (log 17). -/
def valueLengthOk (id : Nat) (v : List Byte) : Bool := (formOf? id).all fun f => v.length == f.length v

/-! ### Codes of enumerated items -/

/-- The code of a **scan link mode** (R186). -/
def LinkMode.code : LinkMode → Nat
  | .wide => 0 | .narrow => 1
/-- The code of a **trigger mode**: its position in the table of section 5.8. -/
def TriggerMode.code : TriggerMode → Nat
  | .off => 0 | .onOpen => 1 | .onSuspect => 2 | .both => 3
/-- The code of a **drift mode** (chapter 10). -/
def DriftMode.code : DriftMode → Nat
  | .off => 0 | .propose => 1 | .auto => 2
/-- The code of an **arbiter mode** (chapter 10). -/
def ArbiterMode.code : ArbiterMode → Nat
  | .rotating => 0 | .fixed => 1
/-- The code of a **line rate** (R186). -/
def LineRate.code : LineRate → Nat
  | .r57600 => 0 | .r115200 => 1 | .r460800 => 2 | .r1000000 => 3 | .r2000000 => 4

/-- The value with code n of a list in code order. -/
def byCode {α : Type} (values : List α) (v : List Byte) : Option α := values[field v 0 1]?

/-- The bits of a privileges byte (R186). -/
def Privileges.code (p : Privileges) : Nat :=
  p.read.toNat + 2 * p.time.toNat + 4 * p.edit.toNat + 8 * p.lane.toNat + 16 * p.restart.toNat

/-- The privileges of a byte; bits beyond those defined are ignored (R183). -/
def privilegesOf (b : Byte) : Privileges := ⟨b.getLsbD 0, b.getLsbD 1, b.getLsbD 2, b.getLsbD 3, b.getLsbD 4⟩

/-! ### Values written -/

/-- A natural number in 4 signed bytes within a range. -/
def natIn (lo hi : Nat) (v : List Byte) : Option Nat :=
  let x := fieldInt v 0 4
  if (lo : Int) ≤ x ∧ x ≤ hi then some x.toNat else none

/-- A coefficient set (R39); every 16-bit value is in range. -/
def firOf (v : List Byte) : Fir :=
  ⟨fieldInt v 0 2, fieldInt v 2 2, fieldInt v 4 2, fieldInt v 6 2, fieldInt v 8 2, fieldInt v 10 2⟩

/-- n points of a curve. -/
def pointsOf : Nat → List Byte → Curve
  | 0, _ => []
  | n + 1, v => ⟨fieldInt v 0 4, fieldInt v 4 2⟩ :: pointsOf n (v.drop 6)

/-- A curve with 1 to `most` points, every x and y within its range (R71, R86). -/
def curveOf (most : Nat) (xlo xhi ylo yhi : Int) (v : List Byte) : Option Curve :=
  let n := field v 0 1
  let ps := pointsOf n (v.drop 1)
  if 1 ≤ n ∧ n ≤ most ∧ ps.all (fun p => decide (xlo ≤ p.x ∧ p.x ≤ xhi ∧ ylo ≤ p.y ∧ p.y ≤ yhi)) then some ps else none

/-- A **probe map** with both probes in range (R86). -/
def probeMapOf (v : List Byte) : Option ProbeMap := do
  let a ← Probe.ofNumber? (field v 0 1)
  let b ← Probe.ofNumber? (field v 1 1)
  pure ⟨a, b⟩

/-- n spacing windows. -/
def windowsOf : Nat → List Byte → List SpacingWindow
  | 0, _ => []
  | n + 1, v => ⟨field v 0 2, field v 2 2⟩ :: windowsOf n (v.drop 4)

/-- The five limits in their ranges (R108). -/
def limitsOf (v : List Byte) : Option Limits :=
  let m : Limits := ⟨field v 0 2, field v 2 2, field v 4 2, field v 6 2, field v 8 4⟩
  if m.single ≤ 32767 ∧ m.tandem ≤ 32767 ∧ m.tridem ≤ 32767 ∧ m.multi ≤ 32767 ∧ m.gross ≤ 250000 then some m else none

/-- The gross bound that stands for an absent one (R186). -/
def noBound : Nat := 4294967295

/-- An optional gross bound. -/
def boundOf (n : Nat) : Option Nat := if n = noBound then none else some n

/-- A class rule in its ranges: every window's minimum at most its maximum, at most 11 windows, the gross minimum not above
the gross maximum (R108). -/
def classRuleOf (v : List Byte) : Option ClassRule := do
  let n := field v 2 1
  let ws := windowsOf n (v.drop 3)
  let tail := v.drop (3 + 4 * n)
  let lo := boundOf (field tail 0 4)
  let hi := boundOf (field tail 4 4)
  let lim ← limitsOf (tail.drop 8)
  let code := field v 0 1
  let axles := field v 1 1
  if 1 ≤ code ∧ code ≤ 31 ∧ 2 ≤ axles ∧ axles ≤ 12 ∧ n ≤ 11 ∧ ws.all (fun w => decide (w.lo ≤ w.hi)) ∧
      lo.all (fun x => decide (x ≤ 250000)) ∧ hi.all (fun x => decide (x ≤ 250000)) ∧
      lo.all (fun x => hi.all fun y => decide (x ≤ y)) then
    some ⟨code, axles, ws, lo, hi, lim⟩
  else none

/-! ### The item in a set of settings -/

/-- The settings with their site items worked by a function. -/
def Settings.onSite (f : SiteSettings → SiteSettings) (cfg : Settings) : Settings := { cfg with site := f cfg.site }
/-- The settings with a lane's items worked by a function. -/
def Settings.onLane (l : Lane) (f : LaneSettings → LaneSettings) (cfg : Settings) : Settings :=
  { cfg with lane := cfg.lane.set l (f (cfg.lane.get l)) }
/-- The settings with a channel's items worked by a function. -/
def Settings.onChannel (c : Channel) (f : ChannelSettings → ChannelSettings) (cfg : Settings) : Settings :=
  { cfg with channel := setCh cfg.channel c (f (getCh cfg.channel c)) }
/-- The settings with a probe's items worked by a function. -/
def Settings.onProbe (p : Probe) (f : ProbeSettings → ProbeSettings) (cfg : Settings) : Settings :=
  { cfg with probe := cfg.probe.set p (f (cfg.probe.get p)) }
/-- The settings with a port's items worked by a function. -/
def Settings.onPort (p : Port) (f : PortSettings → PortSettings) (cfg : Settings) : Settings :=
  { cfg with port := cfg.port.set p (f (cfg.port.get p)) }

/-- A lane's speed curve of a row replaced. -/
def LaneSettings.withSpeedCurve (r : Row) (k : Curve) (x : LaneSettings) : LaneSettings :=
  match r with
  | .u => { x with speedU := k }
  | .d => { x with speedD := k }

/-- A value written to an item of the settings; none when it is outside its range (R39, R71, R86, R108, R118, R173 and the
tables they name). -/
def writeItem (v : List Byte) (cfg : Settings) : Item → Option Settings
  | .bufferOffset => (natIn 2 14 v).map fun n => cfg.onSite fun x => { x with bufferOffset := n }
  | .linkMode => (byCode [.wide, .narrow] v).map fun m => cfg.onSite fun x => { x with linkMode := m }
  | .fir l => some (cfg.onLane l fun x => { x with fir := firOf v })
  | .tOn c => (natIn 16 16383 v).map fun n => cfg.onChannel c fun x => { x with tOn := n }
  | .tOff c => (natIn 8 16383 v).map fun n => cfg.onChannel c fun x => { x with tOff := n }
  | .hold c => (natIn 1 15 v).map fun n => cfg.onChannel c fun x => { x with hold := n }
  | .enable c => (byCode [true, false] v).map fun b => cfg.onChannel c fun x => { x with enabled := b }
  | .gain c => (natIn 0 16777215 v).map fun n => cfg.onChannel c fun x => { x with gain := n }
  | .rowSpacing l => (natIn 500 5000 v).map fun n => cfg.onLane l fun x => { x with rowSpacing := n }
  | .speedCurve l r => (curveOf 8 56 6945 2048 8191 v).map fun k => cfg.onLane l fun x => x.withSpeedCurve r k
  | .tempCurve l => (curveOf 9 (-400) 800 2048 8191 v).map fun k => cfg.onLane l fun x => { x with tempCurve := k }
  | .tempCorrection l => (byCode [true, false] v).map fun b => cfg.onLane l fun x => { x with tempCorrection := b }
  | .coincidence => (natIn 1 64 v).map fun n => cfg.onSite fun x => { x with coincidence := n }
  | .rowAgreement => (natIn 5 50 v).map fun n => cfg.onSite fun x => { x with rowAgreement := n }
  | .probeCurve p => (curveOf 16 0 65535 (-1000) 1500 v).map fun k => cfg.onProbe p fun x => { x with curve := k }
  | .openT p => (natIn 0 32767 v).map fun n => cfg.onProbe p fun x => { x with openT := n }
  | .shortT p => (natIn 32768 65535 v).map fun n => cfg.onProbe p fun x => { x with shortT := n }
  | .probeMap l => (probeMapOf v).map fun m => cfg.onLane l fun x => { x with probeMap := m }
  | .spikeLimit => (natIn 5 100 v).map fun n => cfg.onSite fun x => { x with spikeLimit := n }
  | .loopLine l => (natIn 1 6 v).map fun n => cfg.onLane l fun x => { x with loopLine := n }
  | .closeDelay => (natIn 50 5000 v).map fun n => cfg.onSite fun x => { x with closeDelay := n }
  | .splitSpacing => (natIn 600 2000 v).map fun n => cfg.onSite fun x => { x with splitSpacing := n }
  | .groupSpacing => (natIn 100 300 v).map fun n => cfg.onSite fun x => { x with groupSpacing := n }
  | .tolerance => (natIn 0 30 v).map fun n => cfg.onSite fun x => { x with tolerance := n }
  | .classRuleCount => (natIn 0 32 v).map fun n => cfg.onSite fun x => { x with classRuleCount := n }
  | .classRule k => (classRuleOf v).map fun r => { cfg with rules := cfg.rules.set (k - 1) r }
  | .unclassified => (limitsOf v).map fun m => cfg.onSite fun x => { x with unclassified := m }
  | .triggerMode l =>
    (byCode [.off, .onOpen, .onSuspect, .both] v).map fun m => cfg.onLane l fun x => { x with triggerMode := m }
  | .triggerWidth l => (natIn 1 255 v).map fun n => cfg.onLane l fun x => { x with triggerWidth := n }
  | .driftMode l => (byCode [.off, .propose, .auto] v).map fun m => cfg.onLane l fun x => { x with driftMode := m }
  | .autoDrift => (byCode [false, true] v).map fun b => cfg.onSite fun x => { x with autoDrift := b }
  | .refClass l => (natIn 1 31 v).map fun n => cfg.onLane l fun x => { x with refClass := n }
  | .refGrossMin l => (natIn 0 250000 v).map fun n => cfg.onLane l fun x => { x with refGrossMin := n }
  | .driftTarget l => (natIn 2000 12000 v).map fun n => cfg.onLane l fun x => { x with driftTarget := n }
  | .arbiterMode => (byCode [.rotating, .fixed] v).map fun m => cfg.onSite fun x => { x with arbiterMode := m }
  | .unitAddress => (natIn 1 62 v).map fun n => cfg.onSite fun x => { x with unitAddress := n }
  | .groupAddress => (natIn 0 63 v).map fun n => cfg.onSite fun x => { x with groupAddress := n }
  | .groupMask => (natIn 0 63 v).map fun n => cfg.onSite fun x => { x with groupMask := n }
  | .groupEnable p => (byCode [false, true] v).map fun b => cfg.onPort p fun x => { x with groupEnable := b }
  | .broadcast p => (byCode [false, true] v).map fun b => cfg.onPort p fun x => { x with broadcast := b }
  | .lineRate p =>
    (byCode [.r57600, .r115200, .r460800, .r1000000, .r2000000] v).map fun r => cfg.onPort p fun x => { x with rate := r }
  | .privileges p => some (cfg.onPort p fun x => { x with privileges := privilegesOf (v.headD 0) })

/-! ### Values read -/

/-- A number in 4 signed bytes. -/
def numberBytes (n : Nat) : List Byte := intBytes 4 n

/-- A coefficient set's value. -/
def Fir.bytes (f : Fir) : List Byte :=
  intBytes 2 f.c0 ++ intBytes 2 f.c1 ++ intBytes 2 f.c2 ++ intBytes 2 f.c3 ++ intBytes 2 f.c4 ++ intBytes 2 f.c5

/-- A curve's value. -/
def curveBytes (k : Curve) : List Byte := natBytes 1 k.length ++ k.flatMap fun p => intBytes 4 p.x ++ intBytes 2 p.y

/-- The five limits' value. -/
def Limits.bytes (m : Limits) : List Byte :=
  natBytes 2 m.single ++ natBytes 2 m.tandem ++ natBytes 2 m.tridem ++ natBytes 2 m.multi ++ natBytes 4 m.gross

/-- A class rule's value. -/
def ClassRule.bytes (r : ClassRule) : List Byte :=
  natBytes 1 r.code ++ natBytes 1 r.axles ++ natBytes 1 r.windows.length ++
    (r.windows.flatMap fun w => natBytes 2 w.lo ++ natBytes 2 w.hi) ++
    natBytes 4 (r.grossMin.getD noBound) ++ natBytes 4 (r.grossMax.getD noBound) ++ r.limits.bytes

/-- An item's value in the form WRITE SETTING takes it (R186). -/
def readItem (cfg : Settings) : Item → List Byte
  | .bufferOffset => numberBytes cfg.site.bufferOffset
  | .linkMode => natBytes 1 cfg.site.linkMode.code
  | .fir l => (cfg.lane.get l).fir.bytes
  | .tOn c => numberBytes (getCh cfg.channel c).tOn
  | .tOff c => numberBytes (getCh cfg.channel c).tOff
  | .hold c => numberBytes (getCh cfg.channel c).hold
  | .enable c => boolByte !(getCh cfg.channel c).enabled
  | .gain c => numberBytes (getCh cfg.channel c).gain
  | .rowSpacing l => numberBytes (cfg.lane.get l).rowSpacing
  | .speedCurve l r => curveBytes ((cfg.lane.get l).speedCurve r)
  | .tempCurve l => curveBytes (cfg.lane.get l).tempCurve
  | .tempCorrection l => boolByte !(cfg.lane.get l).tempCorrection
  | .coincidence => numberBytes cfg.site.coincidence
  | .rowAgreement => numberBytes cfg.site.rowAgreement
  | .probeCurve p => curveBytes (cfg.probe.get p).curve
  | .openT p => numberBytes (cfg.probe.get p).openT
  | .shortT p => numberBytes (cfg.probe.get p).shortT
  | .probeMap l => natBytes 1 (cfg.lane.get l).probeMap.primary.number ++ natBytes 1 (cfg.lane.get l).probeMap.secondary.number
  | .spikeLimit => numberBytes cfg.site.spikeLimit
  | .loopLine l => numberBytes (cfg.lane.get l).loopLine
  | .closeDelay => numberBytes cfg.site.closeDelay
  | .splitSpacing => numberBytes cfg.site.splitSpacing
  | .groupSpacing => numberBytes cfg.site.groupSpacing
  | .tolerance => numberBytes cfg.site.tolerance
  | .classRuleCount => numberBytes cfg.site.classRuleCount
  | .classRule k => (cfg.rules.getD (k - 1) .unused).bytes
  | .unclassified => cfg.site.unclassified.bytes
  | .triggerMode l => natBytes 1 (cfg.lane.get l).triggerMode.code
  | .triggerWidth l => numberBytes (cfg.lane.get l).triggerWidth
  | .driftMode l => natBytes 1 (cfg.lane.get l).driftMode.code
  | .autoDrift => boolByte cfg.site.autoDrift
  | .refClass l => numberBytes (cfg.lane.get l).refClass
  | .refGrossMin l => numberBytes (cfg.lane.get l).refGrossMin
  | .driftTarget l => numberBytes (cfg.lane.get l).driftTarget
  | .arbiterMode => natBytes 1 cfg.site.arbiterMode.code
  | .unitAddress => numberBytes cfg.site.unitAddress
  | .groupAddress => numberBytes cfg.site.groupAddress
  | .groupMask => numberBytes cfg.site.groupMask
  | .groupEnable p => boolByte (cfg.port.get p).groupEnable
  | .broadcast p => boolByte (cfg.port.get p).broadcast
  | .lineRate p => natBytes 1 (cfg.port.get p).rate.code
  | .privileges p => natBytes 1 (cfg.port.get p).privileges.code

/-! ### Cross-item checks of COMMIT (section 9.3) -/

/-- A check with the item id and index it names when it fails. -/
abbrev Check := Bool × Nat × Nat

/-- The curves in the order checked: speed curves, temperature curves, probe curves (log 20). -/
def curveChecks (cfg : Settings) : List Check :=
  (Lane.all.flatMap fun l =>
    [(ascending (cfg.lane.get l).speedU, 50, 2 * (l.number - 1)),
     (ascending (cfg.lane.get l).speedD, 50, 2 * (l.number - 1) + 1)]) ++
  (Lane.all.map fun l => (ascending (cfg.lane.get l).tempCurve, 51, l.number)) ++
  Probe.all.map fun p => (ascending (cfg.probe.get p).curve, 64, p.number)

/-- T_off at most T_on. -/
def thresholdChecks (cfg : Settings) : List Check :=
  Channel.all.map fun c => (decide ((getCh cfg.channel c).tOff ≤ (getCh cfg.channel c).tOn), 34, c.index)

/-- The tap sum of a coefficient set (R23, R39). -/
def Fir.tapSum (f : Fir) : Int := 2 * (f.c0 + f.c1 + f.c2 + f.c3 + f.c4) + f.c5

/-- The tap sum within 2,048 and 8,192. -/
def firChecks (cfg : Settings) : List Check :=
  Lane.all.map fun l =>
    (decide (2048 ≤ (cfg.lane.get l).fir.tapSum ∧ (cfg.lane.get l).fir.tapSum ≤ 8192), 32, l.number)

/-- Each rule in force has exactly axle count − 1 windows, rules numbered from n. -/
def ruleChecks : Nat → List ClassRule → List Check
  | _, [] => []
  | n, r :: rs => (r.windows.length + 1 == r.axles, 86, n) :: ruleChecks (n + 1) rs

/-- A probe map's two probes differ. -/
def mapChecks (cfg : Settings) : List Check :=
  Lane.all.map fun l => ((cfg.lane.get l).probeMap.primary != (cfg.lane.get l).probeMap.secondary, 67, l.number)

/-- Every cross-item check in the order of the table of section 9.3. -/
def crossChecks (cfg : Settings) : List Check :=
  curveChecks cfg ++ thresholdChecks cfg ++ firChecks cfg ++ ruleChecks 1 (cfg.rules.take cfg.site.classRuleCount) ++
    mapChecks cfg

/-- The item id and index of the first check that fails. -/
def firstFailure (cs : List Check) : Option (Nat × Nat) := (cs.find? fun c => !c.1).map fun c => c.2

/-! ### Protected items and their lanes (R178) -/

/-- A lane's items with the operational ones set aside: two that agree differ in no protected item of the lane. -/
def LaneSettings.calibration (x : LaneSettings) : LaneSettings :=
  { x with probeMap := ⟨.p0, .p0⟩, loopLine := 0, triggerMode := .off, triggerWidth := 0 }

/-- Whether a probe map names a probe. -/
def ProbeMap.names (m : ProbeMap) (p : Probe) : Bool := m.primary == p || m.secondary == p

/-- Whether some protected item that belongs to a lane differs between two sets of settings, a probe's items belonging to
the lane under the old map or the new (R178, R180). -/
def laneAffected (old new : Settings) (l : Lane) : Bool :=
  (l.channels.any fun c => getCh old.channel c != getCh new.channel c) ||
  (old.lane.get l).calibration != (new.lane.get l).calibration ||
  Probe.all.any fun p =>
    ((old.lane.get l).probeMap.names p || (new.lane.get l).probeMap.names p) && old.probe.get p != new.probe.get p

/-- The lanes a change affects. -/
def affectedLanes (old new : Settings) : PerLane Bool :=
  ⟨laneAffected old new .one, laneAffected old new .two, laneAffected old new .three⟩

/-- Whether some protected item differs between two sets of settings: one that belongs to a lane, an item of a probe that no
lane names, **auto drift permitted** or **port privileges** (R178, R179). -/
def protectedDiffers (old new : Settings) : Bool :=
  Lane.all.any (laneAffected old new) ||
  old.probe != new.probe || old.site.autoDrift != new.site.autoDrift ||
  Port.all.any fun p => (old.port.get p).privileges != (new.port.get p).privileges

end Sys2Proof.Machine
end

