-- ==== Sys2Proof/Machine/Temperature.lean ====
section
/-! DEFINITION. The pavement temperature monitor (chapter 4): slots and conversions, readings, probe states, the lane
temperatures and their flags. -/

namespace Sys2Proof.Machine

/-! ### Conversions (R74, R75) -/

/-- The slot index of a scan: bits 12 and 13 of its status word (R11). -/
def Scan.slot (d : Scan) : Probe := Probe.ofBits (d.status.extractLsb' 12 2)

/-- A conversion added to a probe's accumulator (R75). -/
def ProbeState.accumulate (conversion : Nat) (q : ProbeState) : ProbeState :=
  { q with sum := q.sum + conversion, count := q.count + 1 }

/-- A conversion taken for its probe, which becomes the slot reference (R74). -/
def TempMonitor.takeConversion (m : TempMonitor) (d : Scan) : TempMonitor :=
  { m with slotRef := some d.slot, probe := m.probe.set d.slot ((m.probe.get d.slot).accumulate d.conversion.toNat) }

/-- Whether a delivered scan's slot index follows the slot reference (R74). -/
def TempMonitor.inOrder (m : TempMonitor) (d : Scan) : Bool := m.slotRef.all fun r => r.succ == d.slot

/-- A delivered scan at the monitor: its conversion is discarded on a SLIP mark; taken when the slot reference is none or
the slot follows it; otherwise discarded, counted and latched. The scan's slot becomes the reference in every case (R74). -/
def temperatureScan (d : Scan) (slip : Bool) (s : State) : State :=
  let m := s.ptm
  if slip then s.withPtm { m with slotRef := some d.slot }
  else if m.inOrder d then s.withPtm (m.takeConversion d)
  else latchDetail .probeSlotOrder
    (s.withPtm { m with slotRef := some d.slot, discards := bump 65535 m.discards })

/-- The link-loss notice: accumulators cleared, slot reference none, all else kept (R76). DESIGN CHOICE (log 41): an accumulator that
has reached 2,000 conversions and whose PROBE_READING is not yet taken is cleared too, so that its reading is never formed; R76 speaks
of partial readings, and the manual does not say whether a loss at that strobe comes before the reading of R75. -/
def TempMonitor.linkLoss (m : TempMonitor) : TempMonitor :=
  { m with slotRef := none, probe := m.probe.mapI fun _ q => { q with sum := 0, count := 0 } }

/-! ### Readings (R77 to R79) -/

/-- The class of a raw count (R77). -/
def classify (cfg : ProbeSettings) (raw : Nat) : ReadingClass :=
  if raw < cfg.openT then .badOpen else if cfg.shortT < raw then .badShort else .good

/-- A good reading linearised on the probe curve and kept within −400 and +800 (R77). -/
def linearise (cfg : ProbeSettings) (raw : Nat) : Int := clampInt (-400) 800 (readCurve cfg.curve raw)

/-- The persistence counts after a reading (R79). -/
def ProbeState.persist (cls : ReadingClass) (q : ProbeState) : ProbeState :=
  match cls with
  | .good => { q with good := bump 5 q.good, badOpen := 0, badShort := 0 }
  | .badOpen => { q with good := 0, badOpen := bump 3 q.badOpen, badShort := 0 }
  | .badShort => { q with good := 0, badOpen := 0, badShort := bump 3 q.badShort }

/-- A good reading's temperature through the filter: seeding, the spike test, the third spike accepted, or one eighth of
the difference truncated (R78). -/
def ProbeState.filter (spikeLimit : Nat) (t : Int) (q : ProbeState) : ProbeState :=
  match q.f with
  | none => { q with f := some t, spikes := 0 }
  | some f =>
    if spikeLimit < (t - f).natAbs then
      if 3 ≤ q.spikes + 1 then { q with f := some t, spikes := 0 } else { q with spikes := q.spikes + 1 }
    else { q with f := some (f + Int.tdiv (t - f) 8), spikes := 0 }

/-- A reading through the filter: a bad one leaves f and clears the spike count (R78). -/
def ProbeState.filtered (cfg : ProbeSettings) (spikeLimit raw : Nat) (cls : ReadingClass) (q : ProbeState) : ProbeState :=
  match cls with
  | .good => q.filter spikeLimit (linearise cfg raw)
  | .badOpen | .badShort => { q with spikes := 0 }

/-- The state a reading moves a probe to, from its counts after the update (R79). -/
def ProbeState.moved (cls : ReadingClass) (q : ProbeState) : ProbeHealth :=
  match q.state, cls with
  | .none, .good => .good
  | .good, .good => .good
  | .open, .good | .short, .good | .stale, .good => if q.good = 5 then .good else q.state
  | .open, .badOpen => .open
  | .none, .badOpen | .good, .badOpen | .short, .badOpen | .stale, .badOpen => if q.badOpen = 3 then .open else q.state
  | .short, .badShort => .short
  | .none, .badShort | .good, .badShort | .open, .badShort | .stale, .badShort => if q.badShort = 3 then .short else q.state

/-- Entry to a probe state: f unseeded and the spike count 0 on OPEN, SHORT and STALE, the persistence counts cleared on
STALE besides (R81). -/
def ProbeState.enter (h : ProbeHealth) (q : ProbeState) : ProbeState :=
  match h with
  | .none | .good => { q with state := h }
  | .open | .short => { q with state := h, f := none, spikes := 0 }
  | .stale => { q with state := h, f := none, spikes := 0, good := 0, badOpen := 0, badShort := 0 }

/-! ### Lane temperatures (R82 to R84) -/

/-- A GOOD probe's filtered value. -/
def ProbeState.supplied (q : ProbeState) : Option Int := if q.state = .good then some (q.f.getD 0) else none

/-- The filtered values of every GOOD probe, in probe order. -/
def TempMonitor.goodValues (m : TempMonitor) : List Int := Probe.all.filterMap fun p => (m.probe.get p).supplied

/-- The source and value a lane takes from the probes, none when no probe is GOOD (R83). -/
def TempMonitor.choose (m : TempMonitor) (map : ProbeMap) : Option (TempSource × Int) :=
  match (m.probe.get map.primary).supplied, (m.probe.get map.secondary).supplied with
  | some f, _ => some (.primary, f)
  | none, some f => some (.secondary, f)
  | none, none =>
    let fs := m.goodValues
    if fs.isEmpty then none else some (.siteMean, Int.tdiv fs.sum fs.length)

/-- FROST and HOT updated from the value, with their hysteresis (R84). -/
def LaneTemp.updateFlags (t : LaneTemp) : LaneTemp :=
  { t with
    frost := if t.value ≤ 10 then true else if 20 ≤ t.value then false else t.frost
    hot := if 550 ≤ t.value then true else if t.value ≤ 530 then false else t.hot }

/-- A lane re-evaluated (R83, R84): a lane that enters HELD starts its held time at 0, one already HELD keeps counting, one
that leaves HELD discards it. -/
def LaneTemp.reevaluated (choice : Option (TempSource × Int)) (t : LaneTemp) : LaneTemp :=
  LaneTemp.updateFlags <|
    match choice with
    | some (source, v) => { t with source := source, value := v, held := 0, lostDue := false }
    | none => if t.source = .held then t else { t with source := .held, held := 0, lostDue := false }

/-- One lane re-evaluated from the probes as they stand and its probe map in the active image (R83). -/
def reevaluateLane (l : Lane) (s : State) : State :=
  s.withPtm { s.ptm with
    lane := s.ptm.lane.set l ((s.laneTemp l).reevaluated (s.ptm.choose (s.laneSet l).probeMap)) }

/-- Every lane re-evaluated (R81). -/
def reevaluateLanes (s : State) : State := Lane.all.foldl (fun s l => reevaluateLane l s) s

/-- A probe's record replaced; a change of its state latches "probe state"; then every lane is re-evaluated (R81). -/
def probeMoved (p : Probe) (changed : Bool) (q : ProbeState) (s : State) : State :=
  reevaluateLanes (latchDetailIf changed .probeState (s.withPtm { s.ptm with probe := s.ptm.probe.set p q }))

/-- A probe's completed reading, in the order of R81: formed, classified and linearised, counted and filtered, the state
moved, the lanes re-evaluated (R75, R77 to R81). -/
def probeReading (p : Probe) (s : State) : State :=
  let q := s.ptm.probe.get p
  if q.count < 2000 then s
  else
    let cfg := s.settings.probe.get p
    let raw := roundDiv q.sum 2000
    let cls := classify cfg raw
    let q := { q with sum := 0, count := 0, last := some ⟨raw, cls⟩, stale := some 0 }
    let q := (q.persist cls).filtered cfg s.site.spikeLimit raw cls
    let h := q.moved cls
    if h = q.state then probeMoved p false q s else probeMoved p true (q.enter h) s

/-- Strobes without a completed reading at which a probe becomes STALE (R80). -/
def staleStrobes : Nat := 24000

/-- Whether a probe's stale timer puts it in STALE (R80). -/
def ProbeState.staleDue (q : ProbeState) : Bool :=
  q.stale.any (fun n => decide (staleStrobes ≤ n)) && (q.state == .good || q.state == .open || q.state == .short)

/-- The stale timer's expiry in GOOD, OPEN or SHORT (R80, R81). -/
def probeStale (p : Probe) (s : State) : State :=
  let q := s.ptm.probe.get p
  if q.staleDue then probeMoved p true (q.enter .stale) s else s

/-- The held time at which a lane is LOST, in strobes (R82). -/
def heldStrobes : Nat := 7200000

/-- The held time completed: the lane becomes LOST (R82). -/
def laneTempLost (l : Lane) (s : State) : State :=
  let t := s.laneTemp l
  if t.source = .held && t.lostDue then
    s.withPtm { s.ptm with lane := s.ptm.lane.set l { t with held := heldStrobes, lostDue := false } }
  else s

/-- A probe returned to NONE by a committed change of its items: f unseeded, counts cleared, stale timer stopped, the
accumulator kept (R88). -/
def ProbeState.settingsChanged (q : ProbeState) : ProbeState :=
  { q with state := .none, f := none, spikes := 0, good := 0, badOpen := 0, badShort := 0, stale := none }

/-! ### What a strobe does to the monitor -/

/-- A lane's held time at a strobe; the strobe that would complete it makes LANE_TEMP_LOST due (R82, log 2). -/
def LaneTemp.strobe (t : LaneTemp) : LaneTemp :=
  if t.source = .held then
    if t.held + 1 < heldStrobes then { t with held := t.held + 1 }
    else if t.held < heldStrobes then { t with lostDue := true }
    else t
  else t

/-- The stale timers and the held times at a strobe (R80, R82). -/
def TempMonitor.strobe (m : TempMonitor) : TempMonitor :=
  { m with
    probe := m.probe.mapI fun _ q => { q with stale := bumpTimer staleStrobes q.stale }
    lane := m.lane.mapI fun _ t => t.strobe }

/-! ### Meanings -/

/-- PROBE_READING (R75). -/
def execProbeReading (p : Probe) (s : State) : Host.Outcome State Fault Refusal := .next (probeReading p s)
/-- PROBE_STALE (R80). -/
def execProbeStale (p : Probe) (s : State) : Host.Outcome State Fault Refusal := .next (probeStale p s)
/-- LANE_TEMP_LOST (R82). -/
def execLaneTempLost (l : Lane) (s : State) : Host.Outcome State Fault Refusal := .next (laneTempLost l s)

end Sys2Proof.Machine
end

