-- ==== Sys2Proof/Machine/Link.lean ====
section
/-! DEFINITION. The scan link receiver and the scan buffer (sections 1.4 to 1.6): alignment, assembly of scans, the
buffer's writes and reads, the margins, delivery, silence, and the loss of the link. -/

namespace Sys2Proof.Machine

/-! ### Occupancy and margins (R17) -/

/-- The margin: the lesser of the occupancy and 16 minus the occupancy (R17). -/
def margin (occ : Nat) : Nat := min occ (16 - occ)

/-- The margin latches after a change of occupancy in RUNNING: the receiver's own, and at each such change every port's copy
with the detail "scan link" (R17, R168). -/
def evalMargin (s : State) : State :=
  let m := margin s.slr.occ
  let low := decide (m ≤ 2)
  let lowest := decide (m ≤ 1)
  let s := s.withSlr { s.slr with margin2 := s.slr.margin2 || low, margin1 := s.slr.margin1 || lowest }
  latchDetailIf low .scanLink (latchDetailIf low .margin2 (latchDetailIf lowest .margin1 s))

/-! ### Entry to RUNNING (R12) -/

/-- The buffer with `n` fill entries from a position on (R12). -/
def fillFrom : Nat → Nat → List Entry → List Entry
  | 0, _, buf => buf
  | n + 1, pos, buf => fillFrom n ((pos + 1) % 16) (buf.set (pos % 16) .fill)

/-- The first marker found: RUNNING, the write position set to the read position plus the offset, the entries between made
fill entries, the scan begun by the marker assembled (R12). -/
def enterRunning (marker : List Word16) (s : State) : State :=
  let k := s.slr
  let offset := s.site.bufferOffset
  evalMargin (s.withSlr { k with
    state := .running, wr := (k.rd + offset) % 16, buf := fillFrom offset k.rd k.buf, occ := offset
    slipPending := false, partialScan := marker, halfMarker := false, lastScan := none })

/-- An arrival examined in ALIGNING (R12). -/
def alignArrival (tagged : Bool) (value : Word16) (s : State) : State :=
  match s.site.linkMode with
  | .wide => if tagged then enterRunning [value] s else s
  | .narrow =>
    if s.slr.halfMarker then
      if tagged then enterRunning [value, value] s else s.withSlr { s.slr with halfMarker := false }
    else if tagged then s.withSlr { s.slr with halfMarker := true } else s

/-! ### Assembly (R11, R13, R15) -/

/-- The units of a scan: 15 words, or 30 halves (R11). -/
def scanUnits : LinkMode → Nat
  | .wide => 15
  | .narrow => 30

/-- The units of a marker: one tagged word, or two tagged halves (R11). -/
def markerUnits : LinkMode → Nat
  | .wide => 1
  | .narrow => 2

/-- Word k of an assembled scan; in narrow mode the high half first (R11). -/
def scanWordAt (mode : LinkMode) (units : List Word16) (k : Nat) : Word16 :=
  match mode with
  | .wide => units.getD k 0
  | .narrow => ((units.getD (2 * k) 0).setWidth 8 ++ (units.getD (2 * k + 1) 0).setWidth 8 : BitVec 16)

/-- The scan of a complete set of units: words 1 to 12 the channels in order, 13 the conversion, 14 the status (R11). -/
def assemble (mode : LinkMode) (units : List Word16) : Scan :=
  let lane (i : Nat) : PerHalf Word16 :=
    ⟨scanWordAt mode units i, scanWordAt mode units (i + 1), scanWordAt mode units (i + 2), scanWordAt mode units (i + 3)⟩
  { samples := ⟨lane 1, lane 5, lane 9⟩
    conversion := scanWordAt mode units 13
    status := scanWordAt mode units 14 }

/-- A completed scan at the buffer: written at the write position, or, with the buffer full, discarded with the slip-pending
mark set and a slip counted and latched (R15). -/
def completeScan (d : Scan) (s : State) : State :=
  let k := s.slr
  if k.occ < 16 then
    evalMargin (s.withSlr { k with
      buf := k.buf.set k.wr (.scan d), wr := (k.wr + 1) % 16, occ := k.occ + 1, partialScan := [] })
  else latchDetail .scanLink
    (s.withSlr { k with slipPending := true, slips := bump 65535 k.slips, partialScan := [] })

/-! ### Loss of the link (R19) -/

/-- The buffer emptied, with the read position where it is (R19, step 1). -/
def Link.emptied (k : Link) : Link :=
  { k with
    buf := List.replicate 16 .empty, occ := 0, slipPending := false, partialScan := [], halfMarker := false
    lastScan := none }

/-- The notice of a link loss as it travels the data path: conditioners, axle formers each passing it to its vehicle builder,
and the temperature monitor (R19, R32, R70, R76). The formers and builders take it in lane order, which is the model's choice
(log 36). -/
def noticePath (s : State) : State :=
  let s := Lane.all.foldl (fun s l => flushFormer l s) (s.withCc (mapCh (fun _ c => c.linkLoss) s.cc))
  s.withPtm s.ptm.linkLoss

/-- The link leaves RUNNING for `next`: the buffer is emptied, "scan link" latches, and the notice is sent (R19). -/
def leaveRunning (next : LinkState) (s : State) : State :=
  noticePath (latchDetail .scanLink (s.withSlr { s.slr.emptied with state := next }))

/-! ### Arrivals (R12, R13) -/

/-- An arrival in RUNNING: a framing error when a marker position is untagged or a later one tagged, which sends the link to
ALIGNING and has a tagged arrival examined there; otherwise a unit of the scan, complete at its last (R13, R15). -/
def runningArrival (tagged : Bool) (value : Word16) (s : State) : State :=
  let mode := s.site.linkMode
  let pos := s.slr.partialScan.length
  if tagged = decide (pos < markerUnits mode) then
    let units := s.slr.partialScan ++ [value]
    if units.length < scanUnits mode then s.withSlr { s.slr with partialScan := units }
    else completeScan (assemble mode units) s
  else alignArrival tagged value (leaveRunning .aligning s)

/-- LINK_ARRIVAL: every arrival restarts the silence count; in DOWN it moves the link to ALIGNING and is examined there (R12 to
R14). -/
def linkArrival (tagged : Bool) (value : Word16) (s : State) : State :=
  let s := s.withSlr { s.slr with silence := 0 }
  match s.slr.state with
  | .down => alignArrival tagged value (s.withSlr { s.slr with state := .aligning, halfMarker := false })
  | .aligning => alignArrival tagged value s
  | .running => runningArrival tagged value s

/-! ### Silence (R14) -/

/-- Strobes without an arrival at which the link goes DOWN (R14). -/
def silenceStrobes : Nat := 4

/-- LINK_SILENCE: from RUNNING with the consequences of R19, from ALIGNING without (R14). -/
def linkSilence (s : State) : State :=
  if s.slr.silence < silenceStrobes then s
  else
    match s.slr.state with
    | .down => s
    | .aligning => s.withSlr { s.slr with state := .down, partialScan := [], halfMarker := false }
    | .running => leaveRunning .down s

/-! ### The read at a strobe (R16, R18) -/

/-- A scan delivered to the twelve conditioners and the temperature monitor with the strobe's number and site time and its SLIP
mark (R18). -/
def deliver (d : Scan) (slip : Bool) (s : State) : State :=
  temperatureScan d slip (conditionersScan d slip s.sck.present s.sck.strobeTime s)

/-- The buffer with its read entry consumed (R16). -/
def Link.consumed (k : Link) : Link :=
  { k with buf := k.buf.set k.rd .empty, rd := (k.rd + 1) % 16, occ := k.occ - 1 }

/-- The read at a strobe in RUNNING: a fill entry delivers nothing, a scan is delivered with SLIP when a slip is pending, an
empty buffer repeats the scan delivered last as a slip. In DOWN and ALIGNING nothing is read (R16, R17). -/
def strobeRead (s : State) : State :=
  let k := s.slr
  if k.state = .running then
    if k.occ = 0 then
      let s := latchDetail .scanLink (s.withSlr { k with slipPending := false, slips := bump 65535 k.slips })
      match k.lastScan with
      | some d => deliver d true s
      | none => s
    else
      match k.buf.getD k.rd .empty with
      | .scan d =>
        deliver d k.slipPending (evalMargin (s.withSlr { k.consumed with slipPending := false, lastScan := some d }))
      | _ => evalMargin (s.withSlr k.consumed)
  else s

/-- The silence count at a strobe (R14). -/
def Link.strobe (k : Link) : Link := { k with silence := if k.state = .down then k.silence else bump silenceStrobes k.silence }

/-! ### Meanings -/

/-- LINK_ARRIVAL (R12). -/
def execLinkArrival (tagged : Bool) (value : Word16) (s : State) : Host.Outcome State Fault Refusal :=
  .next (linkArrival tagged value s)
/-- LINK_SILENCE (R14). -/
def execLinkSilence (s : State) : Host.Outcome State Fault Refusal := .next (linkSilence s)

end Sys2Proof.Machine
end

