-- ==== Sys2Proof/Machine/Calibration.lean ====
section
/-! DEFINITION. Changes of the active image (chapter 9): the effects of an applied commit on every block (R180), the taking
of a drift application (R126), programming (R181) and the loss of the edit token (R176). -/

namespace Sys2Proof.Machine

/-! ### What a commit does to each block (R180) -/

/-- The active image with the committed settings, its generation raised when a protected item changed (R180). -/
def Image.committed (new : Settings) (m : Image) : Image :=
  { m with settings := new, generation := if protectedDiffers m.settings new then m.generation + 1 else m.generation }

/-- A conditioner compares its own items, old and new (R40). -/
def Conditioner.settingsChanged (oldFir newFir : Fir) (old new : ChannelSettings) (c : Conditioner) : Conditioner :=
  match old.enabled, new.enabled with
  | true, false => { c.leavePulse .disabled with hist := [] }
  | false, false => c
  | false, true => c.enterAcquire
  | true, true =>
    if oldFir = newFir ∧ old.tOn = new.tOn ∧ old.tOff = new.tOff ∧ old.hold = new.hold then c else c.enterAcquire

/-- Every conditioner told of a commit (R40). -/
def conditionersCommit (old new : Settings) (s : State) : State :=
  s.withCc (mapCh (fun ch c => c.settingsChanged (old.lane.get ch.lane).fir (new.lane.get ch.lane).fir
    (getCh old.channel ch) (getCh new.channel ch)) s.cc)

/-- The miss count of a channel that a commit disables is 0 (R68). -/
def missCommit (old new : ChannelSettings) (n : Nat) : Nat := if old.enabled && !new.enabled then 0 else n

/-- The axle formers told of a commit (R68). -/
def formersCommit (old new : Settings) (s : State) : State :=
  Lane.all.foldl (fun s l => s.withFormer l { s.former l with
    miss := (s.former l).miss.mapI fun r sd n => missCommit (getCh old.channel ⟨l, r, sd⟩) (getCh new.channel ⟨l, r, sd⟩) n }) s

/-- The drift trackers told of a commit (R129). -/
def trackersCommit (affected : PerLane Bool) (s : State) : State :=
  Lane.all.foldl (fun s l => if affected.get l then s.withTracker l (s.tracker l).calibrationChanged else s) s

/-- The run told of a commit: a protected item of its lane changed (R139). -/
def runCommit (affected : PerLane Bool) (s : State) : State :=
  endRunIf (Lane.all.any fun l => affected.get l && s.runActive l) .aborted s

/-- Whether a probe's items changed (R88). -/
def probeItemsChanged (old new : Settings) (p : Probe) : Bool := old.probe.get p != new.probe.get p

/-- The temperature monitor told of a commit: the probes whose items changed return to NONE together, which latches "probe
state" and re-evaluates every lane; without such a probe the lanes whose probe map changed are re-evaluated (R88, R81). -/
def monitorCommit (old new : Settings) (s : State) : State :=
  if Probe.all.any (probeItemsChanged old new) then
    reevaluateLanes (latchDetail .probeState (s.withPtm { s.ptm with
      probe := s.ptm.probe.mapI fun p q => if probeItemsChanged old new p then q.settingsChanged else q }))
  else
    Lane.all.foldl (fun s l =>
      if (old.lane.get l).probeMap = (new.lane.get l).probeMap then s else reevaluateLane l s) s

/-- A port told of a commit: in LISTEN it takes a changed line rate at once and its idle count restarts (R164). -/
def SitePort.rateCommit (rate : LineRate) (q : SitePort) : SitePort :=
  if q.state = .listen ∧ q.rate ≠ rate then { q with rate := rate, idle := 0, bitPhase := 0 } else q

/-- The ports told of a commit (R164). -/
def portsCommit (new : Settings) (s : State) : State :=
  s.withPorts (s.port.mapI fun p q => q.rateCommit (new.port.get p).rate)

/-- The receiver told of a commit: a changed mode sends a RUNNING link to ALIGNING with the consequences of R19 and resets
an ALIGNING search (R20). -/
def linkCommit (old new : Settings) (s : State) : State :=
  if old.site.linkMode = new.site.linkMode then s
  else
    match s.slr.state with
    | .running => leaveRunning .aligning s
    | .aligning => s.withSlr { s.slr with halfMarker := false }
    | .down => s

/-- The builders, trackers and run told of a rise with the lanes affected; told of nothing when no protected item changed
(R180). -/
def riseCommit (old new : Settings) (s : State) : State :=
  if protectedDiffers old new then
    let lanes := affectedLanes old new
    let s := s.withSst { s.sst with riseLanes := lanes }
    runCommit lanes (trackersCommit lanes (riseNotices lanes s))
  else s

/-- A commit applied (R180): the image first, then every block, then programming (log 16). -/
def applyCommit (new : Settings) (s : State) : State :=
  let old := s.settings
  let s := s.withSst { s.sst with active := s.sst.active.committed new }
  let s := riseCommit old new s
  let s := monitorCommit old new (formersCommit old new (conditionersCommit old new s))
  startProgramming (linkCommit old new (portsCommit new s))

/-! ### Drift applications (R125, R126) -/

/-- Whether the pending application of a lane may be taken (R125). -/
def driftReady (s : State) (l : Lane) : Bool :=
  (s.tracker l).app.isSome && (s.ctx l).state == .idle && !s.programming && !s.runActive l

/-- One lane alone. -/
def onlyLane (l : Lane) : PerLane Bool := (PerLane.all false).set l true

/-- A pending application taken: factor, generation, notices, programming, tracker (R126). -/
def takeApplication (l : Lane) (a : Application) (s : State) : State :=
  let active := { s.sst.active with drift := s.sst.active.drift.set l a.value, generation := s.sst.active.generation + 1 }
  let s := s.withSst { s.sst with active := active, riseLanes := onlyLane l }
  let s := startProgramming (riseNotices (onlyLane l) s)
  s.withTracker l { (s.tracker l).emptied with app := none }

/-- DRIFT_APPLICATION_TAKEN when its conditions hold (R125, R126). -/
def driftApplicationTaken (l : Lane) (s : State) : State :=
  match (s.tracker l).app with
  | some a => if driftReady s l then takeApplication l a s else s
  | none => s

/-! ### Programming (R181) -/

/-- A step's grant to the settings engine: its writing begins (R154, R181). -/
def programmingStep (s : State) : State :=
  if s.grantee = some .settingsEngine then
    match s.sst.prog with
    | .ready n m =>
      let s := beginGrant .settingsEngine s
      endGrant (s.withSst { s.sst with prog := .writing n m })
    | .idle | .writing _ _ => s
  else s

/-- The steps of programming (R181). -/
def programmingSteps : Nat := 16

/-- The end of a block's writing: a failed verify stops programming with the store fault mark; a good one makes the next
step ready, and the sixteenth completes the stored image (R181). -/
def programmingWriteDone (verified : Bool) (s : State) : State :=
  match s.sst.prog with
  | .writing n m =>
    if !verified then latchDetail .storeFault (s.withSst { s.sst with prog := .idle, storeFault := true })
    else if n < programmingSteps then s.withSst { s.sst with prog := .ready (n + 1) m }
    else s.withSst { s.sst with
      nv := m, nvGood := true, prog := .idle, storeFault := false, settingsState := .valid }
  | .idle | .ready _ _ => s

/-! ### The edit token (R176) -/

/-- The strobes at which the lease runs out (R176). -/
def leaseStrobes : Nat := 960000

/-- The token freed: the working copy goes with it and a run ends ABORTED (R176, R139). -/
def freeToken (s : State) : State :=
  endRunIf (s.rru.state != .idle) .aborted (s.withSst { s.sst with edit := none })

/-- The expiry of the token, with EDIT_LOST at its former holder (R176). -/
def editTokenExpiry (s : State) : State :=
  match s.sst.edit with
  | some e => if leaseStrobes ≤ e.lease then latchAt e.holder .editLost (freeToken s) else s
  | none => s

/-! ### The timers of a run (R135, R136) -/

/-- The count of the pending timer at its expiry (R135). -/
def pendingStrobes : Nat := 2400000
/-- The count of the armed timer at its expiry (R136). -/
def armedStrobes : Nat := 14400000

/-- The pending timer's expiry rejects the pending pass (R135). -/
def runPendingTimeout (s : State) : State :=
  if s.rru.state = .pending && s.rru.pendTimer.any (fun n => decide (pendingStrobes ≤ n)) then s.withRru s.rru.reject else s

/-- The armed timer's expiry ends the run with TIMEOUT (R136). -/
def runArmedTimeout (s : State) : State :=
  if s.rru.state = .armed && s.rru.armed.any (fun n => decide (armedStrobes ≤ n)) then
    s.withRru (s.rru.finish .timeout)
  else s

/-! ### Meanings -/

/-- DRIFT_APPLICATION_TAKEN (R126). -/
def execDriftApplicationTaken (l : Lane) (s : State) : Host.Outcome State Fault Refusal := .next (driftApplicationTaken l s)
/-- PROGRAMMING_STEP (R181). -/
def execProgrammingStep (s : State) : Host.Outcome State Fault Refusal := .next (programmingStep s)
/-- PROGRAMMING_WRITE_DONE (R181). -/
def execProgrammingWriteDone (verified : Bool) (s : State) : Host.Outcome State Fault Refusal :=
  .next (programmingWriteDone verified s)
/-- EDIT_TOKEN_EXPIRY (R176). -/
def execEditTokenExpiry (s : State) : Host.Outcome State Fault Refusal := .next (editTokenExpiry s)
/-- RUN_PENDING_TIMEOUT (R135). -/
def execRunPendingTimeout (s : State) : Host.Outcome State Fault Refusal := .next (runPendingTimeout s)
/-- RUN_ARMED_TIMEOUT (R136). -/
def execRunArmedTimeout (s : State) : Host.Outcome State Fault Refusal := .next (runArmedTimeout s)

end Sys2Proof.Machine
end

