-- ==== Sys2Proof/Machine/Clock.lean ====
section
/-! DEFINITION. The site clock (sections 1.1 to 1.3): the two accumulators and their increment words, site time, the time
states, time marks and the time-pulse line. -/

namespace Sys2Proof.Machine

/-- The microsecond accumulator's increment word: 214,748,364.8 × (1 + trim / 10^9), rounded half up (R1). -/
def usWord (trim : Int) : Word32 := BitVec.ofInt 32 ((2147483648 * (1000000000 + trim) + 5000000000) / 10000000000)

/-- The scan accumulator's increment word: 1,717,986.9184 × (1 + trim / 10^9), rounded half up (R2). -/
def scanWord (trim : Int) : Word32 :=
  BitVec.ofInt 32 ((17179869184 * (1000000000 + trim) + 5000000000000) / 10000000000000)

/-- One step of an accumulator: the sum modulo 2^32, and whether a carry came out of it (section 1.1). -/
def accumulatorStep (acc word : Word32) : Word32 × Bool := (acc + word, decide (2 ^ 32 ≤ acc.toNat + word.toNat))

/-- One microsecond added to site time, carrying into the seconds count, which wraps (R1). -/
def SiteTime.advance (t : SiteTime) : SiteTime := if t.us + 1 < 1000000 then ⟨t.sec, t.us + 1⟩ else ⟨t.sec + 1, 0⟩

/-- SITE_TIME_ADVANCE: one microsecond in every time state (R1). -/
def siteTimeAdvance (s : State) : State := s.withSck { s.sck with time := s.sck.time.advance }

/-- Strobes without an accepted pulse at which LOCKED becomes HOLDOVER (R4). -/
def holdoverStrobes : Nat := 80000

/-- The holdover timer's expiry in LOCKED (R4). -/
def holdoverExpiry (s : State) : State :=
  if s.sck.timeState = .locked && s.sck.holdover.any (fun n => decide (holdoverStrobes ≤ n)) then
    s.withSck { s.sck with timeState := .holdover }
  else s

/-- Strobes for which a pending mark stays valid (R5). -/
def markStrobes : Nat := 12000

/-- A pending mark taken, in place of any already pending (R5). -/
def setMark (sec : Word32) (s : State) : State := s.withSck { s.sck with mark := some ⟨sec, 0⟩ }

/-- The pending mark discarded at the strobe that completes its count (R5). -/
def timeMarkExpiry (s : State) : State :=
  if s.sck.mark.any (fun m => decide (markStrobes ≤ m.strobes)) then s.withSck { s.sck with mark := none } else s

/-- The pulse error in microseconds: the seconds difference, read as signed, × 1,000,000 plus the captured microseconds (R7). -/
def pulseError (t : SiteTime) (mark : Word32) : Int := (t.sec - mark).toInt * 1000000 + t.us

/-- Whether a marked pulse steps site time (R7). -/
def stepsTime (state : TimeState) (e : Int) : Bool := state == .unset || state == .set || decide (1000 < e.natAbs)

/-- The rate trim kept within −200,000 and +200,000 (R3). -/
def keepTrim (t : Int) : Int := clampInt (-200000) 200000 t

/-- What every accepted pulse does: site time reads mark seconds and 0 microseconds, the state is LOCKED, the holdover timer
restarts at 0, the mark is consumed and the error kept, saturated to 32 bits (R7, R8). -/
def Clock.accept (mark : Word32) (e : Int) (k : Clock) : Clock :=
  { k with
    time := ⟨mark, 0⟩, timeState := .locked, holdover := some 0, mark := none
    lastError := clampInt (-2147483648) 2147483647 e }

/-- A rising edge on the time-pulse line: unmarked it is counted (R6); marked it steps site time and latches "time stepped"
(R7), or slews it and turns the trim by −250 × e (R8). -/
def timePulse (s : State) : State :=
  match s.sck.mark with
  | none => s.withSck { s.sck with unmarked := bump 65535 s.sck.unmarked }
  | some m =>
    let e := pulseError s.sck.time m.sec
    let k := s.sck.accept m.sec e
    if stepsTime s.sck.timeState e then latchDetail .timeStepped (s.withSck k)
    else s.withSck { k with trim := keepTrim (s.sck.trim - 250 * e) }

/-- TIME SET taken in UNSET or SET (R9). -/
def setTime (sec : Word32) (us : Nat) (s : State) : State :=
  s.withSck { s.sck with time := ⟨sec, us⟩, timeState := .set }

/-- The clock at a strobe: the strobe carries the scan number and the site time, the scan number advances, and the mark's and
the holdover timer's counts run (R2, R4, R5, R10). -/
def Clock.strobe (k : Clock) : Clock :=
  { k with
    scan := k.scan + 1, present := k.scan, strobeTime := k.time
    mark := k.mark.map fun m => { m with strobes := bump markStrobes m.strobes }
    holdover := if k.timeState = .locked then bumpTimer holdoverStrobes k.holdover else k.holdover }

/-! ### Meanings -/

/-- SITE_TIME_ADVANCE (R1). -/
def execSiteTimeAdvance (s : State) : Host.Outcome State Fault Refusal := .next (siteTimeAdvance s)
/-- HOLDOVER_TIMER_EXPIRY (R4). -/
def execHoldoverTimerExpiry (s : State) : Host.Outcome State Fault Refusal := .next (holdoverExpiry s)
/-- TIME_MARK_EXPIRY (R5). -/
def execTimeMarkExpiry (s : State) : Host.Outcome State Fault Refusal := .next (timeMarkExpiry s)
/-- TIME_PULSE (R6, R7, R8). -/
def execTimePulse (s : State) : Host.Outcome State Fault Refusal := .next (timePulse s)

end Sys2Proof.Machine
end

