-- ==== Sys2Proof/Machine/Ports.lean ====
section
/-! DEFINITION. The site ports (sections 8.1 to 8.3): frames and bytes on the line, addressing, the order of the checks
of a request, replies, and the port rows of the table that are no request. -/

namespace Sys2Proof.Machine

/-! ### Answers -/

/-- The statuses (section 8.3). -/
inductive Status where
  | ok | unknown | invalid | denied | notHolder | busy | noProposal | storeFault
deriving DecidableEq, Repr

/-- The status's code (chapter 10). -/
def Status.code : Status → Byte
  | .ok => 0 | .unknown => 1 | .invalid => 2 | .denied => 3
  | .notHolder => 4 | .busy => 5 | .noProposal => 6 | .storeFault => 7

/-- What a request comes to when it is executed: an answer with its state, or a wait in EXECUTE for a grant (R166). -/
inductive Action where
  | answer (s : State) (status : Status) (payload : List Byte)
  | wait (s : State)

/-- A refusal with an empty payload, which changes no state (R166, R184). -/
def refuse (st : Status) (s : State) : Action := .answer s st []

/-- OK with an empty payload. -/
def okay (s : State) : Action := .answer s .ok []

/-! ### The line -/

/-- The idle count at which a port is armed (R160). -/
def armedBits : Nat := 20

/-- Whether a port takes a frame: in LISTEN and armed, or already in RECEIVE (R160, R161). -/
def SitePort.takes (q : SitePort) : Bool := q.state == .receive || (q.state == .listen && decide (armedBits ≤ q.idle))

/-- Whether a byte is an overrun: in EXECUTE, or in REPLY before the port drives the line (R163). -/
def SitePort.holds (q : SitePort) : Bool := q.state == .execute || (q.state == .reply && !q.driving)

/-- A port back in LISTEN after a byte: idle count 0, receive buffer and reply gone, the committed line rate taken (R160,
R164). -/
def SitePort.listening (rate : LineRate) (q : SitePort) : SitePort :=
  { q with
    state := .listen, idle := 0, bitPhase := 0, frameAge := 0, rx := [], reply := [], driving := false, sentBits := 0
    restarting := false, rate := rate }

/-- A port's entry to LISTEN (R164). -/
def toListen (p : Port) (s : State) : State := s.withPort p ((s.sitePort p).listening (s.portSet p).rate)

/-- A port's idle count restarted by a byte: 0, with no part of a bit time passed (R160). -/
def SitePort.quiet (q : SitePort) : SitePort := { q with idle := 0, bitPhase := 0 }

/-- n bytes on the line of a port that takes none: in LISTEN they are discarded, while the port holds a request each is an
overrun, which leaves the time since the request's end as it is, and while it drives the line its receiver is off (R160, R163). -/
def SitePort.offLine (n : Nat) (q : SitePort) : SitePort :=
  if q.holds then ({ q.quiet with overruns := min 65535 (q.overruns + n) }).latch .lineError
  else if q.state = .listen then q.quiet
  else q

/-- n bytes on the line of a port that takes none. -/
def offLine (p : Port) (n : Nat) (s : State) : State := s.withPort p ((s.sitePort p).offLine n)

/-- A frame dropped before its end: counted, LINE_ERROR, back to LISTEN (R161). -/
def framingDrop (p : Port) (s : State) : State :=
  let s := toListen p s
  let q := s.sitePort p
  s.withPort p (({ q with framingErrors := bump 65535 q.framingErrors }).latch .lineError)

/-! ### Addresses (R165, R183) -/

/-- The kinds of a match. -/
inductive Addressed where
  | direct | broadcast | group | noOne
deriving DecidableEq, Repr

/-- The match of a destination byte at a port against the active image (R165). A byte with bit 6 or 7 set is for no one. -/
def State.addressee (s : State) (p : Port) (dest : Byte) : Addressed :=
  let n := dest.toNat
  if 64 ≤ n then .noOne
  else if n = s.site.unitAddress then .direct
  else if n = 63 ∧ (s.portSet p).broadcast then .broadcast
  else if n ≠ 63 ∧ (s.portSet p).groupEnable ∧ n &&& s.site.groupMask = s.site.groupAddress &&& s.site.groupMask then .group
  else .noOne

/-! ### Taking a request (R165, R166) -/

/-- A request in hand: EXECUTE with the frame in the receive buffer, the idle count at 0 since its last byte and the time since its
end at 0 (R160, R164). -/
def hold (p : Port) (frame : List Byte) (s : State) : State :=
  s.withPort p { (s.sitePort p).quiet with state := .execute, rx := frame, frameAge := 0 }

/-- A direct request from the holder restarts the lease at 0 (R166, R176). -/
def restartLease (p : Port) (s : State) : State :=
  match s.sst.edit with
  | some e => if e.holder = p then s.withSst { s.sst with edit := some { e with lease := 0 } } else s
  | none => s

/-- The reply frame of a request: the unit address it was matched with under the reply mark, and the status (R159, R173). -/
def replyFrame (dest : Byte) (st : Status) (payload : List Byte) : List Byte :=
  buildFrame (0x80 ||| (dest &&& 0x3F)) st.code payload

/-- REPLY entered with the reply frame (R164). -/
def enterReply (p : Port) (dest : Byte) (st : Status) (payload : List Byte) (s : State) : State :=
  s.withPort p { s.sitePort p with state := .reply, reply := replyFrame dest st payload, driving := false, sentBits := 0 }

/-- An action of a direct request carried out: answered, or waiting in EXECUTE. -/
def settleAction (p : Port) (dest : Byte) : Action → State
  | .answer s st payload => enterReply p dest st payload s
  | .wait s => s

/-- The checks of R166 from step 2: the payload's length, the privilege, then the request's own rule. -/
def checked (lengthOk allowed : Bool) (act : State → Action) (s : State) : Action :=
  if !lengthOk then refuse .invalid s
  else if !allowed then refuse .denied s
  else act s

/-- An action of a group or broadcast request: whatever it came to is told to no one, and a refusal changed nothing (R165). -/
def silently : Action → State
  | .answer s _ _ => s
  | .wait s => s

/-- A request frame that passed its CRC check, at a port (R160, R161, R165, R166). `groupCapable` says whether the request
is executed when sent by broadcast or group address, `needs` which privilege it needs. -/
def takeRequest (groupCapable lengthOk : Bool) (needs : Privileges → Bool) (act : State → Action)
    (p : Port) (dest code : Byte) (payload : List Byte) (s : State) : State :=
  if !(s.sitePort p).takes then offLine p (6 + payload.length) s
  else if 1024 < payload.length then framingDrop p s
  else
    let allowed := needs (s.portSet p).privileges
    match s.addressee p dest with
    | .noOne => toListen p s
    | .direct =>
      settleAction p dest (checked lengthOk allowed act (restartLease p (hold p (buildFrame dest code payload) s)))
    | .broadcast | .group =>
      if groupCapable then
        toListen p (silently (checked lengthOk allowed act (hold p (buildFrame dest code payload) s)))
      else toListen p s

/-- No privilege needed. -/
def needsNone (_ : Privileges) : Bool := true

/-- A request of a port that must hold the edit token (section 8.3). -/
def holderOnly (p : Port) (act : State → Action) (s : State) : Action :=
  if s.holdsToken p then act s else refuse .notHolder s

/-! ### Frames that are no request of the table -/

/-- The request codes the unit knows (chapter 10). -/
def knownCode (code : Byte) : Bool := decide (1 ≤ code.toNat) && decide (code.toNat ≤ 28)

/-- A request frame whose code the unit does not know: refused UNKNOWN when direct, not executed otherwise (R165, R166). -/
def unknownRequest (p : Port) (dest code : Byte) (payload : List Byte) (s : State) : State :=
  if knownCode code then s
  else takeRequest false true needsNone (refuse .unknown) p dest code payload s

/-- A completed frame: its length is 6 bytes plus its length field, at most 1,024 (R161). -/
def wholeFrame (frame : List Byte) : Bool := frame.length == 6 + frameLength frame && decide (frameLength frame ≤ 1024)

/-- A completed frame whose CRC does not agree is dropped and counted (R162). -/
def frameCrcError (p : Port) (frame : List Byte) (s : State) : State :=
  if !wholeFrame frame || crcAgrees frame then s
  else if !(s.sitePort p).takes then offLine p frame.length s
  else
    let s := toListen p s
    let q := s.sitePort p
    s.withPort p (({ q with crcErrors := bump 65535 q.crcErrors }).latch .lineError)

/-- The reply of another unit on the line: not examined (R162). -/
def otherUnitReply (p : Port) (first : Byte) (payload : List Byte) (s : State) : State :=
  if !first.getLsbD 7 || decide (1024 < payload.length) then s
  else if !(s.sitePort p).takes then offLine p (6 + payload.length) s
  else toListen p s

/-- A good request frame for no one here (R165, R183). -/
def frameNotAddressed (p : Port) (dest : Byte) (payload : List Byte) (s : State) : State :=
  if dest.getLsbD 7 || decide (1024 < payload.length) then s
  else if !(s.sitePort p).takes then offLine p (6 + payload.length) s
  else if s.addressee p dest = .noOne then toListen p s
  else s

/-- Whether bytes are the beginning of a frame, not yet the whole of one: at most four, or fewer than its length says. -/
def unfinished (bytes : List Byte) : Bool :=
  !bytes.isEmpty && (decide (bytes.length < 4) || decide (bytes.length < 6 + frameLength bytes))

/-- A frame ended by a byte with a low stop bit, or by a length above 1,024 found at the second length byte (R161). -/
def framingError (p : Port) (bytes : List Byte) (lowStop : Bool) (s : State) : State :=
  if bytes.isEmpty || (!lowStop && !(bytes.length == 4 && decide (1024 < frameLength bytes))) then s
  else if !(s.sitePort p).takes then offLine p bytes.length s
  else framingDrop p s

/-- A frame ended by a gap of more than 20 bit times, after which the port is armed (R161). -/
def frameGapTimeout (p : Port) (bytes : List Byte) (s : State) : State :=
  if !unfinished bytes then s
  else if !(s.sitePort p).takes then offLine p bytes.length s
  else
    let s := framingDrop p s
    s.withPort p { s.sitePort p with idle := armedBits + 1 }

/-- A byte while the port holds a request (R163). -/
def overrun (p : Port) (s : State) : State := if (s.sitePort p).holds then offLine p 1 s else s

/-- The line without a byte for 20 bit times: the port is armed, in every state of it (R160). -/
def portArmed (p : Port) (s : State) : State :=
  s.withPort p { s.sitePort p with idle := max armedBits (s.sitePort p).idle }

/-- The port begins to drive its reply (R164). -/
def replyStart (p : Port) (s : State) : State :=
  let q := s.sitePort p
  if q.state = .reply ∧ q.driving = false then s.withPort p { q with driving := true, sentBits := 0, bitPhase := 0 } else s

/-- A byte in LISTEN while the port is not armed: discarded, and the count restarts (R160). -/
def byteNotArmed (p : Port) (s : State) : State :=
  let q := s.sitePort p
  if q.state = .listen ∧ q.idle < armedBits then s.withPort p q.quiet else s

/-! ### Meanings -/

/-- UNKNOWN_REQUEST (R166). -/
def execUnknownRequest (p : Port) (dest code : Byte) (payload : List Byte) (s : State) : Host.Outcome State Fault Refusal :=
  .next (unknownRequest p dest code payload s)
/-- FRAME_CRC_ERROR (R162). -/
def execFrameCrcError (p : Port) (frame : List Byte) (s : State) : Host.Outcome State Fault Refusal :=
  .next (frameCrcError p frame s)
/-- OTHER_UNIT_REPLY (R162): its status and payload are not examined. -/
def execOtherUnitReply (p : Port) (first _status : Byte) (payload : List Byte) (s : State) : Host.Outcome State Fault Refusal :=
  .next (otherUnitReply p first payload s)
/-- FRAME_NOT_ADDRESSED (R165): its request code is not examined. -/
def execFrameNotAddressed (p : Port) (dest _code : Byte) (payload : List Byte) (s : State) : Host.Outcome State Fault Refusal :=
  .next (frameNotAddressed p dest payload s)
/-- FRAMING_ERROR (R161). -/
def execFramingError (p : Port) (bytes : List Byte) (lowStop : Bool) (s : State) : Host.Outcome State Fault Refusal :=
  .next (framingError p bytes lowStop s)
/-- FRAME_GAP_TIMEOUT (R161). -/
def execFrameGapTimeout (p : Port) (bytes : List Byte) (s : State) : Host.Outcome State Fault Refusal :=
  .next (frameGapTimeout p bytes s)
/-- OVERRUN (R163): the byte is discarded. -/
def execOverrun (p : Port) (_byte : Byte) (s : State) : Host.Outcome State Fault Refusal := .next (overrun p s)
/-- PORT_ARMED (R160). -/
def execPortArmed (p : Port) (s : State) : Host.Outcome State Fault Refusal := .next (portArmed p s)
/-- REPLY_START (R164). -/
def execReplyStart (p : Port) (s : State) : Host.Outcome State Fault Refusal := .next (replyStart p s)
/-- LISTEN_BYTE_NOT_ARMED (R160): the byte is discarded. -/
def execListenByteNotArmed (p : Port) (_byte : Byte) (s : State) : Host.Outcome State Fault Refusal := .next (byteNotArmed p s)

end Sys2Proof.Machine
end

