-- ==== Sys2Proof/Config.lean ====
section
/-! DEFINITION. What this one implementation fixes without the manual giving the value: the free values.
Nothing in Lean can evaluate one, so a statement about it holds whatever it is (log 8). -/

namespace Sys2Proof

/-- Byte `offset` of a reply field to which the manual gives no value (the lease remaining while the token is
FREE, the last raw count of a probe that has none, the figures of an evaluation that is absent, the value of a
pending application that is absent, the axle figures of READ RUN beyond the declared count).
`draw` counts the replies that held one, so that no two replies are bound to agree. Log 8. -/
opaque Config.freeByte (draw offset : Nat) : Byte

end Sys2Proof
end

