-- ==== Sys2Proof/Machine/Replies.lean ====
section
/-! DEFINITION. The payloads of replies, byte by byte (sections 10.3 and 10.5), and the codes of the enumerations they
carry. Bytes to which the manual gives no value are free values of the given draw (log 8). -/

namespace Sys2Proof.Machine

/-! ### Codes (section 10.5) -/

def TimeState.code : TimeState → Nat
  | .unset => 0 | .set => 1 | .locked => 2 | .holdover => 3
def LinkState.code : LinkState → Nat
  | .down => 0 | .aligning => 1 | .running => 2
def Detector.code : Detector → Nat
  | .acquire => 0 | .idle => 1 | .pulse => 2 | .tail => 3 | .recover => 4 | .disabled => 5
def ProbeHealth.code : ProbeHealth → Nat
  | .none => 0 | .good => 1 | .open => 2 | .short => 3 | .stale => 4
def ReadingClass.code : ReadingClass → Nat
  | .good => 1 | .badOpen => 2 | .badShort => 3
def ReportedSource.code : ReportedSource → Nat
  | .primary => 0 | .secondary => 1 | .siteMean => 2 | .held => 3 | .lost => 4
def LaneMode.code : LaneMode → Nat
  | .open => 0 | .closed => 1
def CtxState.code : CtxState → Nat
  | .idle => 0 | .open => 1 | .closing => 2 | .deferred => 3
def RunState.code : RunState → Nat
  | .idle => 0 | .armed => 1 | .pending => 2 | .full => 3
def RunResult.code : RunResult → Nat
  | .none => 0 | .timeout => 1 | .applied => 2 | .cancelled => 3 | .aborted => 4
def AppKind.code : AppKind → Nat
  | .proposal => 1 | .reset => 2
def OverKind.code : OverKind → Nat
  | .axle => 1 | .group => 2 | .gross => 3
def SettingsState.code : SettingsState → Nat
  | .valid => 0 | .defaults => 1

/-- The programming step shown: 0 for IDLE (section 10.5). -/
def Programming.step : Programming → Nat
  | .idle => 0
  | .ready n _ => n
  | .writing n _ => n

/-- Free bytes: k of them from an offset of a draw (log 8). -/
def freeBytes (draw offset : Nat) : Nat → List Byte
  | 0 => []
  | k + 1 => Config.freeByte draw offset :: freeBytes draw (offset + 1) k

/-- A bit set in whole bytes. -/
def bitBytes {w : Nat} (k : Nat) (b : BitVec w) : List Byte := natBytes k b.toNat

/-! ### The vehicle record (R185) -/

/-- An axle entry's eight bytes. -/
def AxleEntry.bytes (a : AxleEntry) : List Byte :=
  natBytes 2 a.left ++ natBytes 2 a.right ++ natBytes 2 a.spacing ++ natBytes 1 a.group ++ bitBytes 1 a.flags

/-- A record's bytes, beginning with its own size. -/
def Record.bytes (r : Record) : List Byte :=
  natBytes 2 r.size ++ natBytes 4 r.number ++ natBytes 1 r.lane.number ++ natBytes 1 r.cls ++
  natBytes 1 (r.ruleIndex.getD 0) ++ natBytes 1 r.verdict.code ++ bitBytes 3 r.flags ++
  natBytes 1 ((r.overload.map fun o => o.kind.code).getD 0) ++ natBytes 1 ((r.overload.map fun o => o.index).getD 0) ++
  natBytes 2 ((r.overload.map fun o => o.excess).getD 0) ++
  bitBytes 4 r.time.sec ++ natBytes 4 r.time.us ++ natBytes 1 r.quality.code ++ bitBytes 4 r.generation ++
  natBytes 2 (r.speed.getD 0) ++ natBytes 4 r.gross ++ natBytes 1 r.axles.length ++
  intBytes 2 r.temp ++ natBytes 1 r.source.code ++ r.axles.flatMap AxleEntry.bytes

/-- The READ RECORDS reply: count, resume number, records (R149, R185). -/
def recordsPayload (taken : List Record) (resume : Nat) : List Byte :=
  natBytes 1 taken.length ++ natBytes 4 resume ++ taken.flatMap Record.bytes

/-! ### IDENTIFY (R171) -/

/-- The port's letter. -/
def portLetter : Port → Byte
  | .a => 65 | .b => 66 | .c => 67

/-- The vendor string. -/
def vendorBytes : List Byte := [76, 111, 117, 115, 116, 114, 97, 110]
/-- The part string. -/
def partBytes : List Byte := [69, 108, 119, 111, 120, 32, 65, 87, 51]
/-- The silicon revision of this part. -/
def siliconRevision : Byte := 1

/-- The IDENTIFY reply. -/
def identifyPayload (p : Port) (s : State) : List Byte :=
  vendorBytes ++ partBytes ++ [siliconRevision] ++ natBytes 1 s.site.unitAddress ++ [portLetter p] ++
  natBytes 1 s.startCause.code ++ natBytes 1 s.sst.settingsState.code ++ bitBytes 4 s.generation

/-! ### READ STATUS (R170) -/

/-- The clock and link figures (R21). -/
def clockLinkBytes (s : State) : List Byte :=
  natBytes 1 s.sck.timeState.code ++ bitBytes 4 s.sck.time.sec ++ natBytes 4 s.sck.time.us ++ intBytes 4 s.sck.trim ++
  intBytes 4 s.sck.lastError ++ natBytes 2 s.sck.unmarked ++ bitBytes 4 s.sck.scan ++ natBytes 1 s.slr.state.code ++
  natBytes 1 s.site.linkMode.code ++ natBytes 1 s.slr.occ ++
  natBytes 1 (s.slr.margin1.toNat + 2 * s.slr.margin2.toNat) ++ natBytes 2 s.slr.slips

/-- A channel's detector state and baseline (R41). -/
def channelBytes (c : Conditioner) : List Byte := natBytes 1 c.state.code ++ intBytes 2 c.baseline

/-- The SUSPECT_SILENT set of a former, U left at bit 0 (R72). -/
def silentSet (f : AxleFormer) : Nat :=
  (f.silent .u .left).toNat + 2 * (f.silent .u .right).toNat + 4 * (f.silent .d .left).toNat + 8 * (f.silent .d .right).toNat

/-- The occupied half-pending slots of a former (R72). -/
def AxleFormer.occupied (f : AxleFormer) : Nat :=
  ([f.slots.uLeft, f.slots.uRight, f.slots.dLeft, f.slots.dRight].filterMap Slot.held).length

/-- A former's figures (R72). -/
def formerBytes (f : AxleFormer) : List Byte :=
  natBytes 1 f.miss.uLeft ++ natBytes 1 f.miss.uRight ++ natBytes 1 f.miss.dLeft ++ natBytes 1 f.miss.dRight ++
  natBytes 1 (silentSet f) ++ natBytes 1 f.upstream.length ++ natBytes 1 f.occupied

/-- A lane's loop, mode, context and trigger figures (R119). -/
def laneBytes (b : Builder) : List Byte :=
  boolByte b.present ++ boolByte b.loopFault ++ natBytes 1 b.mode.code ++ natBytes 1 b.ctx.state.code ++
  natBytes 1 b.ctx.axles.length ++ boolByte b.line

/-- A port's cursor, unread bytes and filter (R156). -/
def portStoreBytes (st : RecordStore) (p : Port) : List Byte :=
  natBytes 4 (st.cursor.get p) ++ natBytes 2 (st.unreadBytes p) ++
  bitBytes 1 (st.filter.get p).lanes ++ bitBytes 4 (st.filter.get p).classes ++ bitBytes 1 (st.filter.get p).verdicts

/-- The record store and arbiter figures (R156). -/
def storeStatusBytes (s : State) : List Byte :=
  natBytes 2 s.rst.records.length ++ natBytes 2 (recordBytes s.rst.records) ++ natBytes 4 (s.rst.oldest.getD 0) ++
  natBytes 4 s.rst.next ++ natBytes 1 s.rst.queue.length ++ natBytes 2 s.rst.dropped ++
  Port.all.flatMap (portStoreBytes s.rst) ++ natBytes 1 s.site.arbiterMode.code

/-- The lease remaining in whole seconds; without a token the byte is free (R182, log 8). -/
def leaseByte (s : State) : List Byte :=
  match s.sst.edit with
  | some e => natBytes 1 ((960000 - e.lease) / 8000)
  | none => freeBytes s.freeCount 0 1

/-- The settings figures (R182). -/
def settingsStatusBytes (s : State) : List Byte :=
  bitBytes 4 s.generation ++ natBytes 1 s.sst.settingsState.code ++
  natBytes 1 ((s.sst.edit.map fun e => e.holder.number).getD 0) ++ leaseByte s ++
  natBytes 1 s.sst.prog.step ++ boolByte s.sst.storeFault ++ boolByte s.lines.key

/-- The requesting port's own figures (R170). -/
def portStatusBytes (q : SitePort) : List Byte :=
  bitBytes 2 q.cond ++ bitBytes 2 q.enables ++ bitBytes 2 q.details ++
  natBytes 2 q.framingErrors ++ natBytes 2 q.crcErrors ++ natBytes 2 q.overruns

/-- The READ STATUS reply to a port, 182 bytes. -/
def statusPayload (p : Port) (s : State) : List Byte :=
  clockLinkBytes s ++ Channel.all.flatMap (fun c => channelBytes (s.conditioner c)) ++
  Lane.all.flatMap (fun l => formerBytes (s.former l)) ++ Lane.all.flatMap (fun l => laneBytes (s.builder l)) ++
  natBytes 4 s.vehicleNumber ++ storeStatusBytes s ++ settingsStatusBytes s ++ portStatusBytes (s.sitePort p)

/-! ### READ TEMPERATURES (R89) -/

/-- A probe's figures; the raw count before its first reading is free (log 8). -/
def probeBytes (draw offset : Nat) (q : ProbeState) : List Byte :=
  natBytes 1 q.state.code ++ natBytes 1 ((q.last.map fun r => r.cls.code).getD 0) ++
  (match q.last with
    | some r => natBytes 2 r.raw
    | none => freeBytes draw offset 2) ++
  intBytes 2 (q.f.getD (-32768)) ++ natBytes 1 q.good ++ natBytes 1 q.badOpen ++ natBytes 1 q.badShort ++ natBytes 1 q.spikes

/-- The held time in whole seconds; 0 when the source is not HELD. -/
def LaneTemp.heldSeconds (t : LaneTemp) : Nat := if t.source = .held then t.held / 8000 else 0

/-- A lane's temperature figures. -/
def laneTempBytes (t : LaneTemp) : List Byte :=
  intBytes 2 t.value ++ natBytes 1 t.reported.code ++ natBytes 2 t.heldSeconds ++
  natBytes 1 (t.frost.toNat + 2 * t.hot.toNat)

/-- The READ TEMPERATURES reply, 60 bytes. -/
def temperaturesPayload (draw : Nat) (m : TempMonitor) : List Byte :=
  Probe.all.flatMap (fun p => probeBytes draw (2 * p.number) (m.probe.get p)) ++
  Lane.all.flatMap (fun l => laneTempBytes (m.lane.get l)) ++ natBytes 2 m.discards

/-! ### READ DRIFT (R130) -/

/-- The figures of the last evaluation; free while there is none (log 8). -/
def evaluationBytes (draw offset : Nat) : Option Evaluation → List Byte
  | some e => natBytes 2 e.mean ++ natBytes 4 e.ratio ++ natBytes 4 e.unlimited ++ natBytes 2 e.limited
  | none => freeBytes draw offset 12

/-- The pending application's kind and value; the value is free while none is pending (log 8). -/
def applicationBytes (draw offset : Nat) : Option Application → List Byte
  | some a => natBytes 1 a.kind.code ++ natBytes 2 a.value
  | none => 0 :: freeBytes draw offset 2

/-- Whether a lane works as PROPOSE because AUTO is not permitted (R130). -/
def worksAsPropose (s : State) (l : Lane) : Bool := (s.laneSet l).driftMode == .auto && !s.site.autoDrift

/-- A lane's drift figures. -/
def driftBytes (s : State) (l : Lane) : List Byte :=
  let t := s.tracker l
  let base := 16 * l.number
  natBytes 1 (s.laneSet l).driftMode.code ++ boolByte (worksAsPropose s l) ++ natBytes 2 (s.sst.active.drift.get l) ++
  natBytes 1 t.window.length ++ boolByte t.last.isSome ++ evaluationBytes s.freeCount base t.last ++
  natBytes 2 (t.proposal.getD 0) ++ applicationBytes s.freeCount (base + 12) t.app ++ natBytes 2 t.evals

/-- The READ DRIFT reply, 79 bytes. -/
def driftPayload (s : State) : List Byte := Lane.all.flatMap (driftBytes s) ++ bitBytes 4 s.generation

/-! ### READ RUN (R137) -/

/-- Twelve two-byte figures of which those beyond the list are 0. -/
def zeroPadded (xs : List Nat) : List Byte := paddedWords (fun _ => [0, 0]) 12 xs

/-- Twelve two-byte figures of which those beyond the list are free (log 8). -/
def freePadded (draw offset : Nat) (xs : List Nat) : List Byte :=
  paddedWords (fun k => freeBytes draw (offset + 2 * k) 2) 12 xs

/-- The pending pass; every field 0 when there is none (section 10.5). -/
def pendingPassBytes (draw : Nat) : Option PendingPass → List Byte
  | some p => [1] ++ natBytes 4 p.number ++ natBytes 2 p.speed ++ freePadded draw 0 p.loads ++ freePadded draw 24 p.wU ++
      freePadded draw 48 p.wD
  | none => List.replicate 79 0

/-- An accepted pass; its axle loads begin a free block of their own (log 8). -/
def passBytes (draw offset : Nat) (a : AcceptedPass) : List Byte :=
  natBytes 4 a.number ++ natBytes 2 a.speed ++ natBytes 1 (a.point + 1) ++ natBytes 4 a.ratioU ++ natBytes 4 a.ratioD ++
  freePadded draw offset a.loads

/-- The accepted passes in order of acceptance. -/
def passesBytes (draw : Nat) : Nat → List AcceptedPass → List Byte
  | _, [] => []
  | offset, a :: rest => passBytes draw offset a ++ passesBytes draw (offset + 24) rest

/-- A speed point. -/
def SpeedPoint.bytes (p : SpeedPoint) : List Byte :=
  intBytes 2 p.x ++ natBytes 1 p.count ++ natBytes 4 ((meanRatio p.sumU p.count).getD 0) ++
  natBytes 4 ((meanRatio p.sumD p.count).getD 0) ++ intBytes 2 p.proposalU ++ intBytes 2 p.proposalD

/-- The READ RUN reply, 112 + 39 × passes + 15 × points bytes. -/
def runPayload (draw : Nat) (u : RunUnit) : List Byte :=
  natBytes 1 u.state.code ++ natBytes 1 ((u.owner.map Port.number).getD 0) ++ natBytes 1 ((u.lane.map Lane.number).getD 0) ++
  natBytes 1 u.result.code ++ natBytes 1 u.loads.length ++ zeroPadded u.loads ++ pendingPassBytes draw u.pass ++
  natBytes 2 u.skipped ++ natBytes 1 u.passes.length ++ natBytes 1 u.points.length ++ passesBytes draw 72 u.passes ++
  u.points.flatMap SpeedPoint.bytes

end Sys2Proof.Machine
end

