-- ==== Sys2Proof/Machine/Requests.lean ====
section
/-! DEFINITION. The requests (section 8.3): the checks and the work of each, and its meaning as a frame at a port. The
requests that need a grant of the store engine stand with PORT_GRANT_EXECUTE at the end. -/

namespace Sys2Proof.Machine

/-- An OK answer with a payload. -/
def okWith (payload : List Byte) (s : State) : Action := .answer s .ok payload

/-- The next draw of free values taken (log 8). -/
def drawn (s : State) : State := s.withFreeCount (s.freeCount + 1)

/-- A payload of exactly n bytes. -/
def exactly (n : Nat) (payload : List Byte) : Bool := payload.length == n

/-! ### Site clock -/

/-- TIME MARK's own work (R5). -/
def actTimeMark (payload : List Byte) (s : State) : Action := okay (setMark (fieldWord payload 0) s)

/-- TIME SET's own checks and work (R9). -/
def actTimeSet (payload : List Byte) (s : State) : Action :=
  if 999999 < field payload 4 4 then refuse .invalid s
  else
    match s.sck.timeState with
    | .unset | .set => okay (setTime (fieldWord payload 0) (field payload 4 4) s)
    | .locked | .holdover => refuse .denied s

/-! ### Lanes -/

/-- The lanes of a mask (R183). -/
def lanesOf (b : Byte) : List Lane := Lane.all.filter fun l => b.getLsbD (l.number - 1)

/-- LANE MODE's own checks and work, lane by lane (R93, R183). The lanes are taken in lane order, and so are the numbers of the
vehicles they seal: the model's choice, R115 allows either (log 36). -/
def actLaneMode (payload : List Byte) (s : State) : Action :=
  let lanes := lanesOf (payload.getD 0 0)
  match field payload 1 1 with
  | 0 => if lanes.isEmpty then refuse .invalid s else okay (lanes.foldl (fun s l => setLaneMode .open l s) s)
  | 1 => if lanes.isEmpty then refuse .invalid s else okay (lanes.foldl (fun s l => setLaneMode .closed l s) s)
  | _ => refuse .invalid s

/-! ### Reads -/

/-- READ TEMPERATURES (R89). -/
def actReadTemperatures (s : State) : Action := okWith (temperaturesPayload s.freeCount s.ptm) (drawn s)

/-- READ DRIFT (R130). -/
def actReadDrift (s : State) : Action := okWith (driftPayload s) (drawn s)

/-- READ RUN (R137). -/
def actReadRun (s : State) : Action := okWith (runPayload s.freeCount s.rru) (drawn s)

/-- IDENTIFY (R171). -/
def actIdentify (p : Port) (s : State) : Action := okWith (identifyPayload p s) s

/-! ### Drift (R127, R128) -/

/-- The checks DRIFT APPLY and DRIFT RESET share, in their order: lane, token, calibration-enable line. -/
def driftChecked (p : Port) (payload : List Byte) (work : Lane → State → Action) (s : State) : Action :=
  match Lane.ofNumber? (field payload 0 1) with
  | none => refuse .invalid s
  | some l => holderOnly p (fun s => if s.lines.key then work l s else refuse .denied s) s

/-- DRIFT APPLY's own work: the held proposal becomes the pending application (R127). -/
def applyProposal (l : Lane) (s : State) : Action :=
  match (s.tracker l).proposal with
  | some v => okay (s.withTracker l { s.tracker l with proposal := none, app := some ⟨.proposal, v⟩ })
  | none => refuse .noProposal s

/-- Whether a reset is already pending. -/
def DriftTracker.resetPending (t : DriftTracker) : Bool := t.app.any fun a => a.kind == .reset

/-- DRIFT RESET's own work: window emptied, proposal withdrawn, a reset pending; with a reset already pending, nothing (R128). -/
def resetDrift (l : Lane) (s : State) : Action :=
  if (s.tracker l).resetPending then okay s
  else okay (s.withTracker l { (s.tracker l).emptied with app := some ⟨.reset, 4096⟩ })

/-! ### Reference run (R132 to R139) -/

/-- The static loads of a START RUN. -/
def declaredLoads (payload : List Byte) : List Nat :=
  (List.range (field payload 1 1)).map fun k => field payload (2 + 2 * k) 2

/-- The payload length START RUN declares: 2 + 2 × its axle count (R183). -/
def startRunLength (payload : List Byte) : Bool :=
  decide (2 ≤ payload.length) && exactly (2 + 2 * field payload 1 1) payload

/-- START RUN's field ranges: axle count 2 to 12 and every load 500 to 30,000 kg (R132). -/
def loadsOk (loads : List Nat) : Bool :=
  decide (2 ≤ loads.length) && decide (loads.length ≤ 12) && loads.all fun w => decide (500 ≤ w) && decide (w ≤ 30000)

/-- The lane's two speed curves have the same number of points with the same x (R132). -/
def sameX (cu cd : Curve) : Bool := (cu.map fun p => p.x) == cd.map fun p => p.x

/-- START RUN's own checks and work (R132). -/
def actStartRun (p : Port) (payload : List Byte) (s : State) : Action :=
  if s.rru.state ≠ .idle then refuse .busy s
  else
    match Lane.ofNumber? (field payload 0 1) with
    | none => refuse .invalid s
    | some l =>
      let cfg := s.laneSet l
      if loadsOk (declaredLoads payload) && (s.builder l).mode == .open && sameX cfg.speedU cfg.speedD then
        okay (s.withRru (RunUnit.started p l (declaredLoads payload) cfg.speedU cfg.speedD))
      else refuse .invalid s

/-- The pending pass when it is the one named (R134, R135). -/
def namedPass (payload : List Byte) (u : RunUnit) : Option PendingPass :=
  if u.state = .pending then u.pass.filter fun k => k.number == field payload 0 4 else none

/-- ACCEPT PASS's own work (R134). -/
def actAcceptPass (payload : List Byte) (s : State) : Action :=
  match namedPass payload s.rru with
  | some k => okay (s.withRru (s.rru.accept k))
  | none => refuse .invalid s

/-- REJECT PASS's own work (R135). -/
def actRejectPass (payload : List Byte) (s : State) : Action :=
  match namedPass payload s.rru with
  | some _ => okay (s.withRru s.rru.reject)
  | none => refuse .invalid s

/-- The proposed curves written into the working copy (R138). -/
def writeProposals (u : RunUnit) (l : Lane) (s : State) : State :=
  s.withSst { s.sst with edit := s.sst.edit.map fun e => { e with
    working := e.working.onLane l fun x => { x with speedU := u.curveU, speedD := u.curveD } } }

/-- APPLY RUN's own checks and work (R138). -/
def actApplyRun (s : State) : Action :=
  match s.rru.lane with
  | none => refuse .invalid s
  | some l =>
    if s.rru.state = .idle ∨ s.rru.passes = [] then refuse .invalid s
    else okay ((writeProposals s.rru l s).withRru (s.rru.finish .applied))

/-- END RUN's own checks and work (R139). -/
def actEndRun (s : State) : Action :=
  if s.rru.state = .idle then refuse .invalid s else okay (s.withRru (s.rru.finish .cancelled))

/-! ### Attention (R168, R169) -/

/-- A condition set; bits beyond the ten are ignored (R183). -/
def conditionSet (payload : List Byte) : BitVec 10 := BitVec.ofNat 10 (field payload 0 2)

/-- CLEAR ATTENTION (R169). -/
def actClearAttention (p : Port) (payload : List Byte) (s : State) : Action :=
  okay (s.withPort p ((s.sitePort p).clearConditions (conditionSet payload)))

/-- SET ATTENTION ENABLES (R168). -/
def actSetEnables (p : Port) (payload : List Byte) (s : State) : Action :=
  okay (s.withPort p { s.sitePort p with enables := conditionSet payload })

/-- RESTART: refused BUSY while programming runs; otherwise the start-up follows its reply (R172). -/
def actRestart (p : Port) (s : State) : Action :=
  if s.programming then refuse .busy s else okay (s.withPort p { s.sitePort p with restarting := true })

/-! ### Edit token and working copy (R176, R177) -/

/-- CLAIM EDIT (R176); BUSY names the holder (R184). -/
def actClaimEdit (p : Port) (s : State) : Action :=
  match s.sst.edit with
  | none => okay (s.withSst { s.sst with edit := some ⟨p, 0, s.settings⟩ })
  | some e => if e.holder = p then okay s else .answer s .busy (natBytes 1 e.holder.number)

/-- RELEASE EDIT's own work (R176). -/
def actReleaseEdit (s : State) : Action := okay (freeToken s)

/-- The working copy replaced. -/
def withWorking (w : Settings) (s : State) : State :=
  s.withSst { s.sst with edit := s.sst.edit.map fun e => { e with working := w } }

/-- The item a settings request names (R177). -/
def namedItem (payload : List Byte) : Option Item := Item.ofId? (field payload 0 2) (field payload 2 1)

/-- The payload length WRITE SETTING declares (R183). -/
def writeSettingLength (payload : List Byte) : Bool :=
  decide (3 ≤ payload.length) && valueLengthOk (field payload 0 2) (payload.drop 3)

/-- WRITE SETTING's own checks and work (R177). -/
def actWriteSetting (p : Port) (payload : List Byte) (s : State) : Action :=
  match s.sst.edit with
  | none => refuse .notHolder s
  | some e =>
    if e.holder = p then
      match (namedItem payload).bind (writeItem (payload.drop 3) e.working) with
      | some w => okay (withWorking w s)
      | none => refuse .invalid s
    else refuse .notHolder s

/-- DISCARD's own work (R177). -/
def actDiscard (s : State) : Action := okay (withWorking s.settings s)

/-- READ SETTING's own checks and work: source, then the token for WORKING, then the item (R177, log 18). -/
def actReadSetting (p : Port) (payload : List Byte) (s : State) : Action :=
  let answerFrom (cfg : Settings) : Action :=
    match namedItem payload with
    | some i => okWith (readItem cfg i) s
    | none => refuse .invalid s
  match field payload 3 1 with
  | 0 => answerFrom s.settings
  | 1 =>
    match s.sst.edit with
    | some e => if e.holder = p then answerFrom e.working else refuse .notHolder s
    | none => refuse .notHolder s
  | _ => refuse .invalid s

/-! ### Requests that wait for a grant: their checks at the completion of the frame -/

/-- READ RECORDS: max bytes from 40 to 1,019 (R149). -/
def actReadRecords (payload : List Byte) (s : State) : Action :=
  if 40 ≤ field payload 0 2 ∧ field payload 0 2 ≤ 1019 then .wait s else refuse .invalid s

/-- The filter of a SET FILTER; bits beyond lanes, classes and verdicts are ignored (R183). -/
def filterOf (payload : List Byte) : Filter :=
  ⟨BitVec.ofNat 3 (field payload 0 1), BitVec.ofNat 32 (field payload 1 4), BitVec.ofNat 4 (field payload 5 1)⟩

/-- Whether a mask of a filter is empty (R151). -/
def Filter.hasEmpty (f : Filter) : Bool := f.lanes == 0 || f.classes == 0 || f.verdicts == 0

/-- SET FILTER: no mask empty (R151). -/
def actSetFilter (payload : List Byte) (s : State) : Action :=
  if (filterOf payload).hasEmpty then refuse .invalid s else .wait s

/-- SEEK: a mode of OLDEST, NEWEST or NUMBER (R152, R183). -/
def actSeek (payload : List Byte) (s : State) : Action :=
  if field payload 0 1 ≤ 2 then .wait s else refuse .invalid s

/-! ### The same requests at their grant -/

/-- READ RECORDS at its grant (R149). -/
def grantReadRecords (p : Port) (payload : List Byte) (s : State) : Action :=
  let out := s.rst.readOut p (field payload 0 2)
  okWith (recordsPayload out.1 out.2) s

/-- RELEASE at its grant (R150). -/
def grantRelease (p : Port) (payload : List Byte) (s : State) : Action :=
  let n := field payload 0 4
  if s.rst.next ≤ n then refuse .invalid s
  else if n + 1 ≤ s.rst.cursor.get p then okay s
  else okay (moveCursor p (n + 1) s)

/-- SET FILTER at its grant (R151). -/
def grantSetFilter (p : Port) (payload : List Byte) (s : State) : Action := okay (replaceFilter p (filterOf payload) s)

/-- SEEK at its grant (R152). -/
def grantSeek (p : Port) (payload : List Byte) (s : State) : Action :=
  let n := field payload 1 4
  let oldest := s.rst.oldest.getD s.rst.next
  match field payload 0 1 with
  | 0 => okay (moveCursor p oldest s)
  | 1 => okay (moveCursor p s.rst.next s)
  | _ => if oldest ≤ n ∧ n ≤ s.rst.next then okay (moveCursor p n s) else refuse .invalid s

/-- READ STATUS at its grant (R170). -/
def grantReadStatus (p : Port) (s : State) : Action := okWith (statusPayload p s) (drawn s)

/-- COMMIT's reply once it is applied or found to change nothing (R179, R184). -/
def commitAnswer (st : Status) (s : State) : Action := .answer s st (bitBytes 4 s.generation)

/-- COMMIT at its grant: the token, then the checks of R179 in order, then R180. The store fault mark decides the status of
an applied commit as it stood at the grant. DESIGN CHOICE (log 42): where the port has lost the token while its COMMIT waited
(R180: NOT_HOLDER) and programming runs at the grant (R179's first check: BUSY), no rule orders the two refusals; the token is
asked for first, so the reply is NOT_HOLDER. -/
def grantCommit (p : Port) (s : State) : Action :=
  match s.sst.edit with
  | none => refuse .notHolder s
  | some e =>
    if e.holder ≠ p then refuse .notHolder s
    else if s.programming then refuse .busy s
    else
      match firstFailure (crossChecks e.working) with
      | some (id, index) => .answer s .invalid (natBytes 2 id ++ natBytes 1 index)
      | none =>
        if protectedDiffers s.settings e.working && !s.lines.key then .answer s .denied [1]
        else if e.working = s.settings then commitAnswer .ok s
        else commitAnswer (if s.sst.storeFault then .storeFault else .ok) (applyCommit e.working s)

/-- The request a port holds, executed under its grant, by its code (section 8.3). -/
def executeHeld (p : Port) (code : Nat) (payload : List Byte) (s : State) : Action :=
  match code with
  | 2 => grantReadStatus p s
  | 6 => grantReadRecords p payload s
  | 7 => grantRelease p payload s
  | 8 => grantSeek p payload s
  | 9 => grantSetFilter p payload s
  | _ => grantCommit p s

/-- A grant to the port group: level 2 chooses the port, its request is executed and answered, the engine is free again
(R153 to R155, R166). -/
def portGrantExecute (s : State) : State :=
  if s.grantee = some .portGroup then
    match s.chosenPort with
    | some p =>
      let q := s.sitePort p
      endGrant (settleAction p (q.rx.headD 0)
        (executeHeld p q.code (framePayload q.rx) (servePort p (beginGrant .portGroup s))))
    | none => s
  else s

/-! ### Meanings -/

/-- TIME_MARK (R5). -/
def execTimeMark (p : Port) (dest : Byte) (payload : List Byte) (s : State) : Host.Outcome State Fault Refusal :=
  .next (takeRequest true (exactly 4 payload) Privileges.time (actTimeMark payload) p dest 10 payload s)
/-- TIME_SET (R9). -/
def execTimeSet (p : Port) (dest : Byte) (payload : List Byte) (s : State) : Host.Outcome State Fault Refusal :=
  .next (takeRequest false (exactly 8 payload) Privileges.time (actTimeSet payload) p dest 11 payload s)
/-- LANE_MODE (R93). -/
def execLaneMode (p : Port) (dest : Byte) (payload : List Byte) (s : State) : Host.Outcome State Fault Refusal :=
  .next (takeRequest true (exactly 2 payload) Privileges.lane (actLaneMode payload) p dest 12 payload s)
/-- READ_TEMPERATURES (R89). -/
def execReadTemperatures (p : Port) (dest : Byte) (payload : List Byte) (s : State) : Host.Outcome State Fault Refusal :=
  .next (takeRequest false (exactly 0 payload) Privileges.read actReadTemperatures p dest 5 payload s)
/-- DRIFT_APPLY (R127). -/
def execDriftApply (p : Port) (dest : Byte) (payload : List Byte) (key : Bool) (s : State) :
    Host.Outcome State Fault Refusal :=
  .next (takeRequest false (exactly 1 payload) needsNone (driftChecked p payload applyProposal) p dest 26 payload
    (s.withKey key))
/-- DRIFT_RESET (R128). -/
def execDriftReset (p : Port) (dest : Byte) (payload : List Byte) (key : Bool) (s : State) :
    Host.Outcome State Fault Refusal :=
  .next (takeRequest false (exactly 1 payload) needsNone (driftChecked p payload resetDrift) p dest 27 payload
    (s.withKey key))
/-- READ_DRIFT (R130). -/
def execReadDrift (p : Port) (dest : Byte) (payload : List Byte) (s : State) : Host.Outcome State Fault Refusal :=
  .next (takeRequest false (exactly 0 payload) Privileges.read actReadDrift p dest 25 payload s)
/-- START_RUN (R132). -/
def execStartRun (p : Port) (dest : Byte) (payload : List Byte) (s : State) : Host.Outcome State Fault Refusal :=
  .next (takeRequest false (startRunLength payload) needsNone (holderOnly p (actStartRun p payload)) p dest 19 payload s)
/-- ACCEPT_PASS (R134). -/
def execAcceptPass (p : Port) (dest : Byte) (payload : List Byte) (s : State) : Host.Outcome State Fault Refusal :=
  .next (takeRequest false (exactly 4 payload) needsNone (holderOnly p (actAcceptPass payload)) p dest 20 payload s)
/-- REJECT_PASS (R135). -/
def execRejectPass (p : Port) (dest : Byte) (payload : List Byte) (s : State) : Host.Outcome State Fault Refusal :=
  .next (takeRequest false (exactly 4 payload) needsNone (holderOnly p (actRejectPass payload)) p dest 21 payload s)
/-- READ_RUN (R137). -/
def execReadRun (p : Port) (dest : Byte) (payload : List Byte) (s : State) : Host.Outcome State Fault Refusal :=
  .next (takeRequest false (exactly 0 payload) Privileges.read actReadRun p dest 22 payload s)
/-- APPLY_RUN (R138). -/
def execApplyRun (p : Port) (dest : Byte) (payload : List Byte) (s : State) : Host.Outcome State Fault Refusal :=
  .next (takeRequest false (exactly 0 payload) needsNone (holderOnly p actApplyRun) p dest 23 payload s)
/-- END_RUN (R139). -/
def execEndRun (p : Port) (dest : Byte) (payload : List Byte) (s : State) : Host.Outcome State Fault Refusal :=
  .next (takeRequest false (exactly 0 payload) needsNone (holderOnly p actEndRun) p dest 24 payload s)
/-- READ_RECORDS (R149). -/
def execReadRecords (p : Port) (dest : Byte) (payload : List Byte) (s : State) : Host.Outcome State Fault Refusal :=
  .next (takeRequest false (exactly 2 payload) Privileges.read (actReadRecords payload) p dest 6 payload s)
/-- RELEASE (R150). -/
def execRelease (p : Port) (dest : Byte) (payload : List Byte) (s : State) : Host.Outcome State Fault Refusal :=
  .next (takeRequest false (exactly 4 payload) Privileges.read .wait p dest 7 payload s)
/-- SET_FILTER (R151). -/
def execSetFilter (p : Port) (dest : Byte) (payload : List Byte) (s : State) : Host.Outcome State Fault Refusal :=
  .next (takeRequest false (exactly 6 payload) Privileges.read (actSetFilter payload) p dest 9 payload s)
/-- SEEK (R152). -/
def execSeek (p : Port) (dest : Byte) (payload : List Byte) (s : State) : Host.Outcome State Fault Refusal :=
  .next (takeRequest false (exactly 5 payload) Privileges.read (actSeek payload) p dest 8 payload s)
/-- READ_STATUS (R170). -/
def execReadStatus (p : Port) (dest : Byte) (payload : List Byte) (s : State) : Host.Outcome State Fault Refusal :=
  .next (takeRequest false (exactly 0 payload) Privileges.read .wait p dest 2 payload s)
/-- IDENTIFY (R171). -/
def execIdentify (p : Port) (dest : Byte) (payload : List Byte) (s : State) : Host.Outcome State Fault Refusal :=
  .next (takeRequest false (exactly 0 payload) needsNone (actIdentify p) p dest 1 payload s)
/-- CLEAR_ATTENTION (R169). -/
def execClearAttention (p : Port) (dest : Byte) (payload : List Byte) (s : State) : Host.Outcome State Fault Refusal :=
  .next (takeRequest false (exactly 2 payload) needsNone (actClearAttention p payload) p dest 3 payload s)
/-- SET_ATTENTION_ENABLES (R168). -/
def execSetAttentionEnables (p : Port) (dest : Byte) (payload : List Byte) (s : State) :
    Host.Outcome State Fault Refusal :=
  .next (takeRequest false (exactly 2 payload) needsNone (actSetEnables p payload) p dest 4 payload s)
/-- RESTART (R172). -/
def execRestart (p : Port) (dest : Byte) (payload : List Byte) (s : State) : Host.Outcome State Fault Refusal :=
  .next (takeRequest false (exactly 0 payload) Privileges.restart (actRestart p) p dest 28 payload s)
/-- CLAIM_EDIT (R176). -/
def execClaimEdit (p : Port) (dest : Byte) (payload : List Byte) (s : State) : Host.Outcome State Fault Refusal :=
  .next (takeRequest false (exactly 0 payload) Privileges.edit (actClaimEdit p) p dest 13 payload s)
/-- RELEASE_EDIT (R176). -/
def execReleaseEdit (p : Port) (dest : Byte) (payload : List Byte) (s : State) : Host.Outcome State Fault Refusal :=
  .next (takeRequest false (exactly 0 payload) needsNone (holderOnly p actReleaseEdit) p dest 14 payload s)
/-- WRITE_SETTING (R177). -/
def execWriteSetting (p : Port) (dest : Byte) (payload : List Byte) (s : State) : Host.Outcome State Fault Refusal :=
  .next (takeRequest false (writeSettingLength payload) needsNone (actWriteSetting p payload) p dest 16 payload s)
/-- DISCARD (R177). -/
def execDiscard (p : Port) (dest : Byte) (payload : List Byte) (s : State) : Host.Outcome State Fault Refusal :=
  .next (takeRequest false (exactly 0 payload) needsNone (holderOnly p actDiscard) p dest 18 payload s)
/-- READ_SETTING (R177). -/
def execReadSetting (p : Port) (dest : Byte) (payload : List Byte) (s : State) : Host.Outcome State Fault Refusal :=
  .next (takeRequest false (exactly 4 payload) Privileges.read (actReadSetting p payload) p dest 15 payload s)
/-- COMMIT (R179): refused NOT_HOLDER at once, otherwise waiting for its grant. -/
def execCommit (p : Port) (dest : Byte) (payload : List Byte) (s : State) : Host.Outcome State Fault Refusal :=
  .next (takeRequest false (exactly 0 payload) needsNone (holderOnly p .wait) p dest 17 payload s)
/-- PORT_GRANT_EXECUTE (R166). -/
def execPortGrantExecute (key : Bool) (s : State) : Host.Outcome State Fault Refusal :=
  .next (portGrantExecute (s.withKey key))

end Sys2Proof.Machine
end

