-- ==== Sys2Proof/Machine/StartUp.lean ====
section
/-! DEFINITION. The start-up of the processor (R175 with R22, R42, R73, R90, R120, R131, R140, R157 and R174), the end of a
reply (R164) and the start-up that follows the reply to RESTART (R172). -/

namespace Sys2Proof.Machine

/-- The settings store after a start-up: the stored image when its CRC agrees, otherwise the factory defaults; the stored
image is not overwritten (R175). -/
def SettingsStore.startUp (sst : SettingsStore) : SettingsStore where
  nv            := sst.nv
  nvGood        := sst.nvGood
  active        := if sst.nvGood then sst.nv else .factory
  edit          := none
  prog          := .idle
  storeFault    := false
  settingsState := if sst.nvGood then .valid else .defaults
  riseLanes     := .all false

/-- The conditioners after a start-up: DISABLED where the settings loaded disable the channel (R42). -/
def startConditioners (cfg : Settings) : PerChannel Conditioner :=
  mapCh (fun _ (c : ChannelSettings) => Conditioner.start c.enabled) cfg.channel

/-- The lane mode after a start-up: OPEN with valid settings, CLOSED with defaults (R93, R120). -/
def startMode (valid : Bool) : LaneMode := if valid then .open else .closed

/-- A start-up with its cause: every block takes its start-up values. What is kept is what lies outside the blocks: the
stored image, the levels of the pins, and the model's own queue and draw counter. -/
def startUp (cause : StartCause) (s : State) : State :=
  let sst := s.sst.startUp
  let cfg := sst.active.settings
  { pending       := s.pending
    lines         := s.lines
    sck           := .start
    slr           := .start
    cc            := startConditioners cfg
    axf           := .all .start
    vb            := .all (.start (startMode s.sst.nvGood))
    vehicleNumber := 1
    ptm           := .start
    dtk           := .all .start
    rru           := .start
    rst           := .start
    sea           := .start
    port          := cfg.port.mapI fun _ x => .start x.rate (!s.sst.nvGood)
    startCause    := cause
    sst           := sst
    freeCount     := s.freeCount }

/-- The stop bit of a reply's last byte: LISTEN with idle count 0, or, after the reply to an accepted RESTART, the start-up
with cause RESTART_REQUEST (R164, R172). -/
def replySent (p : Port) (s : State) : State :=
  let q := s.sitePort p
  if q.state = .reply ∧ q.driving = true then
    if q.restarting then startUp .restartRequest s else toListen p s
  else s

/-- START_UP (R175). -/
def execStartUp (cause : StartCause) (s : State) : Host.Outcome State Fault Refusal := .next (startUp cause s)
/-- REPLY_SENT (R164, R172). -/
def execReplySent (p : Port) (s : State) : Host.Outcome State Fault Refusal := .next (replySent p s)

end Sys2Proof.Machine
end

