-- ==== Sys2Proof/Machine/Strobe.lean ====
section
/-! DEFINITION. SCAN_STROBE (R2): the events the strobe before made due and that no command has taken yet, then the strobe's
own work: the clock's counts, the read of the buffer and its delivery, and every timer counted in strobes. -/

namespace Sys2Proof.Machine

/-! ### Events still due (log 2) -/

/-- The events of one channel that may be due. -/
def settleChannel (s : State) (c : Channel) : State :=
  pulseAbandoned c (pulseEnd c (recoverComplete c (acquireComplete c s)))

/-- Every event of the conditioners, in channel order. -/
def settleConditioners (s : State) : State := Channel.all.foldl settleChannel s

/-- The window ends of the halves, in channel order. -/
def settleHalves (s : State) : State := Channel.all.foldl (fun s c => halfWindowEnd c s) s

/-- The events of one lane: expiry of U entries, loop change, LOOP_FAULT, close timer, trigger pulse. -/
def settleLane (s : State) (l : Lane) : State :=
  triggerPulseEnd l (closeTimerExpiry l (loopFaultEntry l (loopChange l (upstreamExpiry l s))))

/-- The events of the temperature monitor: readings, stale probes, lanes LOST. -/
def settleMonitor (s : State) : State :=
  let s := Probe.all.foldl (fun s p => probeStale p (probeReading p s)) s
  Lane.all.foldl (fun s l => laneTempLost l s) s

/-- The pending drift applications, in lane order. -/
def settleDrift (s : State) : State := Lane.all.foldl (fun s l => driftApplicationTaken l s) s

/-- Every event still due is taken, in one fixed order; an event that is not due changes nothing (log 2). LINK_SILENCE comes
first, so that it discards a pulse whose end or abandonment is still due (R34, log 37) and a probe's reading still due (R75, log 41). -/
def settle (s : State) : State :=
  let s := linkSilence (holdoverExpiry (timeMarkExpiry s))
  let s := settleHalves (settleConditioners s)
  let s := settleMonitor (Lane.all.foldl settleLane s)
  settleDrift (editTokenExpiry (runArmedTimeout (runPendingTimeout s)))

/-! ### The strobe's own work -/

/-- The run's timers at a strobe (R135, R136). -/
def RunUnit.strobe (u : RunUnit) : RunUnit :=
  { u with armed := bumpTimer armedStrobes u.armed, pendTimer := bumpTimer pendingStrobes u.pendTimer }

/-- The lease at a strobe (R176). -/
def EditSession.strobe (e : EditSession) : EditSession := { e with lease := bump leaseStrobes e.lease }

/-- Every timer counted in strobes, the loop samples and the expiry limits (R4, R5, R14, R55, R80, R82, R91, R92, R96, R116, R135,
R136, R176). -/
def strobeTimers (loops : BitVec 6) (s : State) : State :=
  { s with
    lines := { s.lines with loops := loops }
    sck   := s.sck.strobe
    slr   := s.slr.strobe
    axf   := s.axf.mapI fun l f => f.strobe (s.laneSet l).rowSpacing
    ptm   := s.ptm.strobe
    vb    := s.vb.mapI fun l b => b.strobe (loopSample loops (s.laneSet l).loopLine)
    rru   := s.rru.strobe
    sst   := { s.sst with edit := s.sst.edit.map EditSession.strobe } }

/-- SCAN_STROBE: what was due, then the counts, then the read of the buffer (R2, R16, R18). -/
def scanStrobe (loops : BitVec 6) (s : State) : State := strobeRead (strobeTimers loops (settle s))

/-- SCAN_STROBE (R2). -/
def execScanStrobe (loops : BitVec 6) (s : State) : Host.Outcome State Fault Refusal := .next (scanStrobe loops s)

end Sys2Proof.Machine
end

