-- ==== Sys2Proof/Machine/Dispatch.lean ====
section
/-! DEFINITION. The meaning of every command of the table, one arm each. -/

namespace Sys2Proof.Machine

/-- The meaning of a command: its effect on everything but the queue. -/
def exec (i : Instr) (s : State) : Host.Outcome State Fault Refusal :=
  match i with
  | .startUp cause => Sys2Proof.Machine.execStartUp cause s
  | .siteTimeAdvance => Sys2Proof.Machine.execSiteTimeAdvance s
  | .scanStrobe loops => Sys2Proof.Machine.execScanStrobe loops s
  | .holdoverTimerExpiry => Sys2Proof.Machine.execHoldoverTimerExpiry s
  | .timeMark port dest payload => Sys2Proof.Machine.execTimeMark port dest payload s
  | .timeMarkExpiry => Sys2Proof.Machine.execTimeMarkExpiry s
  | .timePulse => Sys2Proof.Machine.execTimePulse s
  | .timeSet port dest payload => Sys2Proof.Machine.execTimeSet port dest payload s
  | .linkArrival tagged value => Sys2Proof.Machine.execLinkArrival tagged value s
  | .linkSilence => Sys2Proof.Machine.execLinkSilence s
  | .acquireComplete ch => Sys2Proof.Machine.execAcquireComplete ch s
  | .recoverComplete ch => Sys2Proof.Machine.execRecoverComplete ch s
  | .pulseEnd ch => Sys2Proof.Machine.execPulseEnd ch s
  | .pulseAbandoned ch => Sys2Proof.Machine.execPulseAbandoned ch s
  | .halfWindowEnd ch => Sys2Proof.Machine.execHalfWindowEnd ch s
  | .upstreamExpiry lane => Sys2Proof.Machine.execUpstreamExpiry lane s
  | .loopChange lane => Sys2Proof.Machine.execLoopChange lane s
  | .loopFaultEntry lane => Sys2Proof.Machine.execLoopFaultEntry lane s
  | .laneMode port dest payload => Sys2Proof.Machine.execLaneMode port dest payload s
  | .closeTimerExpiry lane => Sys2Proof.Machine.execCloseTimerExpiry lane s
  | .triggerPulseEnd lane => Sys2Proof.Machine.execTriggerPulseEnd lane s
  | .probeReading probe => Sys2Proof.Machine.execProbeReading probe s
  | .probeStale probe => Sys2Proof.Machine.execProbeStale probe s
  | .laneTempLost lane => Sys2Proof.Machine.execLaneTempLost lane s
  | .readTemperatures port dest payload => Sys2Proof.Machine.execReadTemperatures port dest payload s
  | .driftApplicationTaken lane => Sys2Proof.Machine.execDriftApplicationTaken lane s
  | .driftApply port dest payload key => Sys2Proof.Machine.execDriftApply port dest payload key s
  | .driftReset port dest payload key => Sys2Proof.Machine.execDriftReset port dest payload key s
  | .readDrift port dest payload => Sys2Proof.Machine.execReadDrift port dest payload s
  | .startRun port dest payload => Sys2Proof.Machine.execStartRun port dest payload s
  | .acceptPass port dest payload => Sys2Proof.Machine.execAcceptPass port dest payload s
  | .rejectPass port dest payload => Sys2Proof.Machine.execRejectPass port dest payload s
  | .runPendingTimeout => Sys2Proof.Machine.execRunPendingTimeout s
  | .runArmedTimeout => Sys2Proof.Machine.execRunArmedTimeout s
  | .readRun port dest payload => Sys2Proof.Machine.execReadRun port dest payload s
  | .applyRun port dest payload => Sys2Proof.Machine.execApplyRun port dest payload s
  | .endRun port dest payload => Sys2Proof.Machine.execEndRun port dest payload s
  | .recordCommit => Sys2Proof.Machine.execRecordCommit s
  | .portGrantExecute key => Sys2Proof.Machine.execPortGrantExecute key s
  | .readRecords port dest payload => Sys2Proof.Machine.execReadRecords port dest payload s
  | .release port dest payload => Sys2Proof.Machine.execRelease port dest payload s
  | .setFilter port dest payload => Sys2Proof.Machine.execSetFilter port dest payload s
  | .seek port dest payload => Sys2Proof.Machine.execSeek port dest payload s
  | .readStatus port dest payload => Sys2Proof.Machine.execReadStatus port dest payload s
  | .identify port dest payload => Sys2Proof.Machine.execIdentify port dest payload s
  | .clearAttention port dest payload => Sys2Proof.Machine.execClearAttention port dest payload s
  | .setAttentionEnables port dest payload => Sys2Proof.Machine.execSetAttentionEnables port dest payload s
  | .restart port dest payload => Sys2Proof.Machine.execRestart port dest payload s
  | .unknownRequest port dest code payload => Sys2Proof.Machine.execUnknownRequest port dest code payload s
  | .frameCrcError port frame => Sys2Proof.Machine.execFrameCrcError port frame s
  | .otherUnitReply port first status payload => Sys2Proof.Machine.execOtherUnitReply port first status payload s
  | .frameNotAddressed port dest code payload => Sys2Proof.Machine.execFrameNotAddressed port dest code payload s
  | .framingError port bytes lowStop => Sys2Proof.Machine.execFramingError port bytes lowStop s
  | .frameGapTimeout port bytes => Sys2Proof.Machine.execFrameGapTimeout port bytes s
  | .overrun port byte => Sys2Proof.Machine.execOverrun port byte s
  | .portArmed port => Sys2Proof.Machine.execPortArmed port s
  | .replyStart port => Sys2Proof.Machine.execReplyStart port s
  | .replySent port => Sys2Proof.Machine.execReplySent port s
  | .claimEdit port dest payload => Sys2Proof.Machine.execClaimEdit port dest payload s
  | .releaseEdit port dest payload => Sys2Proof.Machine.execReleaseEdit port dest payload s
  | .editTokenExpiry => Sys2Proof.Machine.execEditTokenExpiry s
  | .writeSetting port dest payload => Sys2Proof.Machine.execWriteSetting port dest payload s
  | .discard port dest payload => Sys2Proof.Machine.execDiscard port dest payload s
  | .readSetting port dest payload => Sys2Proof.Machine.execReadSetting port dest payload s
  | .commit port dest payload => Sys2Proof.Machine.execCommit port dest payload s
  | .programmingStep => Sys2Proof.Machine.execProgrammingStep s
  | .programmingWriteDone verified => Sys2Proof.Machine.execProgrammingWriteDone verified s
  | .listenByteNotArmed port byte => Sys2Proof.Machine.execListenByteNotArmed port byte s

end Sys2Proof.Machine
end

