-- ==== Sys2Proof/Machine/Tick.lean ====
section
/-! DEFINITION. What the block does on an empty queue (log 3): it raises the next command that its own state has made due;
with none due, the arbiter's next grant; with neither, one period of the 20 MHz reference passes. -/

namespace Sys2Proof.Machine

/-! ### Commands due by the state alone -/

/-- The commands of a channel whose conditions hold. -/
def dueChannel (s : State) (c : Channel) : List Instr :=
  match (s.conditioner c).due with
  | .none => []
  | .acquireComplete => [.acquireComplete c]
  | .recoverComplete => [.recoverComplete c]
  | .pulseEnd => [.pulseEnd c]
  | .abandon => [.pulseAbandoned c]

/-- The window end of a channel's half. -/
def dueHalf (s : State) (c : Channel) : List Instr :=
  match s.slot c with
  | .open _ windowEnd => if windowEnd = s.sck.present then [.halfWindowEnd c] else []
  | .empty | .waiting _ => []

/-- A command in a list when its condition holds. -/
def dueIf (b : Bool) (i : Instr) : List Instr := if b then [i] else []

/-- Whether a lane's loop change is due (R91). -/
def loopChangeDue (b : Builder) : Bool := decide (4 ≤ b.pend)

/-- Whether a lane's entry to LOOP_FAULT is due (R92). -/
def loopFaultDue (b : Builder) : Bool := b.present && !b.loopFault && decide (loopFaultStrobes ≤ b.presentCount)

/-- The commands of a lane whose conditions hold. -/
def dueLane (s : State) (l : Lane) : List Instr :=
  let b := s.builder l
  dueIf ((s.former l).upstream.any (isExpired s l)) (.upstreamExpiry l) ++
  dueIf (loopChangeDue b) (.loopChange l) ++
  dueIf (loopFaultDue b) (.loopFaultEntry l) ++
  dueIf (b.ctx.state == .closing && b.ctx.timer.any Timer.expired) (.closeTimerExpiry l) ++
  dueIf (b.pulse.any Timer.expired) (.triggerPulseEnd l) ++
  dueIf ((s.laneTemp l).source == .held && (s.laneTemp l).lostDue) (.laneTempLost l)

/-- The commands of a probe whose conditions hold. -/
def dueProbe (s : State) (p : Probe) : List Instr :=
  let q := s.ptm.probe.get p
  dueIf (decide (2000 ≤ q.count)) (.probeReading p) ++ dueIf q.staleDue (.probeStale p)

/-- The commands of the clock, the link, the run and the token whose conditions hold. -/
def dueSite (s : State) : List Instr :=
  dueIf (s.sck.mark.any fun m => decide (markStrobes ≤ m.strobes)) .timeMarkExpiry ++
  dueIf (s.sck.timeState == .locked && s.sck.holdover.any fun n => decide (holdoverStrobes ≤ n)) .holdoverTimerExpiry ++
  dueIf (s.slr.state != .down && decide (silenceStrobes ≤ s.slr.silence)) .linkSilence ++
  dueIf (s.rru.state == .pending && s.rru.pendTimer.any fun n => decide (pendingStrobes ≤ n)) .runPendingTimeout ++
  dueIf (s.rru.state == .armed && s.rru.armed.any fun n => decide (armedStrobes ≤ n)) .runArmedTimeout ++
  dueIf (s.sst.edit.any fun e => decide (leaseStrobes ≤ e.lease)) .editTokenExpiry

/-- Reference periods in a second. -/
def referenceHz : Nat := 20000000

/-- The time since the end of a request frame from which its reply may be driven: 4 bit times, in reference periods times the line
rate (R164). -/
def replyAge : Nat := 4 * referenceHz

/-- The start of a port's reply, once 4 bit times have passed since the end of the request frame (R164). -/
def duePort (s : State) (p : Port) : List Instr :=
  let q := s.sitePort p
  dueIf (q.state == .reply && !q.driving && decide (replyAge ≤ q.frameAge)) (.replyStart p)

/-- Every command due, in the order it is raised. -/
def dueCommands (s : State) : List Instr :=
  Port.all.flatMap (duePort s) ++ dueSite s ++ Channel.all.flatMap (dueChannel s) ++ Channel.all.flatMap (dueHalf s) ++
  Lane.all.flatMap (dueLane s) ++ Probe.all.flatMap (dueProbe s) ++ Lane.all.flatMap (fun l => dueIf (driftReady s l) (.driftApplicationTaken l))

/-- The command of the arbiter's next grant (R153, R154); the calibration-enable line is read as it stands. -/
def grantCommand (s : State) : Option Instr :=
  s.grantee.map fun m =>
    match m with
    | .recordCommit => .recordCommit
    | .settingsEngine => .programmingStep
    | .portGroup => .portGrantExecute s.lines.key

/-! ### One period of the 20 MHz reference -/

/-- The 10 bit times of each byte of a reply (R159, R164). -/
def replyBits (q : SitePort) : Nat := 10 * q.reply.length

/-- Whether one more reference period completes a bit time of a port's line (R159). -/
def SitePort.bitEnds (q : SitePort) : Bool := decide (referenceHz ≤ q.bitPhase + q.rate.bitsPerSecond)

/-- The bits of the reply sent after one more bit time, while the port drives the line (R164). -/
def SitePort.sentAfter (q : SitePort) : Nat := if q.driving then bump (replyBits q) q.sentBits else q.sentBits

/-- Whether one more bit time is the last of a byte that the port sends: a byte seen on its line (R160, R164). -/
def SitePort.byteEnds (q : SitePort) : Bool := q.driving && q.sentAfter % 10 == 0

/-- A bit time that has passed on a port's line: the reply being driven goes on, and the idle count goes on or, at the end of
a byte that the port sends, restarts. The count that PORT_ARMED makes 20 is left to that command (R160, R164). -/
def SitePort.bitTime (q : SitePort) : SitePort :=
  { q with
    sentBits := q.sentAfter
    idle     := if q.byteEnds then 0 else if q.idle + 1 < armedBits then q.idle + 1 else q.idle }

/-- Whether one more reference period is the end of the 20th bit time since the last byte on a port's line (R160). -/
def SitePort.arms (q : SitePort) : Bool := q.bitEnds && !q.byteEnds && q.idle + 1 == armedBits

/-- Whether one more reference period is the end of the last bit of the reply a port drives (R164). -/
def SitePort.sends (q : SitePort) : Bool := q.bitEnds && q.driving && decide (replyBits q ≤ q.sentBits + 1)

/-- The time since the end of the request in hand after one more reference period; it stands at 4 bit times (R164). -/
def SitePort.aged (q : SitePort) : Nat := if q.holds then min replyAge (q.frameAge + q.rate.bitsPerSecond) else q.frameAge

/-- A reference period at a port: its line rate is added to the age of the request in hand and to the phase, and a full phase is a
bit time (R160, R164). -/
def SitePort.period (q : SitePort) : SitePort :=
  let phase := q.bitPhase + q.rate.bitsPerSecond
  if q.bitEnds then { q.bitTime with frameAge := q.aged, bitPhase := phase - referenceHz }
  else { q with frameAge := q.aged, bitPhase := phase }

/-- A reference period: both accumulators step; a carry raises SITE_TIME_ADVANCE or SCAN_STROBE, then the lines raise PORT_ARMED and
after that REPLY_SENT, each in port order (R1, R2, R160, R164). DESIGN CHOICE (log 3): when both accumulators carry in one period,
SITE_TIME_ADVANCE is raised first, so that the site time the strobe hands over (R10) already holds that microsecond; the manual does not
say which comes first. PORT_ARMED is raised before REPLY_SENT, so that no port is armed by it after the start-up that ends a RESTART's
reply, which sets every idle count to 0 (R172, R174). -/
def referencePeriod (s : State) : State :=
  let us := accumulatorStep s.sck.usAcc (usWord s.sck.trim)
  let scan := accumulatorStep s.sck.scanAcc (scanWord s.sck.trim)
  { s with
    pending := dueIf us.2 .siteTimeAdvance ++ dueIf scan.2 (.scanStrobe s.lines.loops) ++
      Port.all.flatMap (fun p => dueIf (s.sitePort p).arms (.portArmed p)) ++
      Port.all.flatMap (fun p => dueIf (s.sitePort p).sends (.replySent p))
    sck     := { s.sck with usAcc := us.1, scanAcc := scan.1 }
    port    := s.port.mapI fun _ q => q.period }

/-- The block on an empty queue (log 3). -/
def idleStep (s : State) : State :=
  match (dueCommands s).head? with
  | some i => s.withPending [i]
  | none =>
    match grantCommand s with
    | some i => s.withPending [i]
    | none => referencePeriod s

end Sys2Proof.Machine
end

