-- ==== Sys2Proof/Machine/Step.lean ====
section
/-! DEFINITION. One step of the block: the command at the front of the queue, or what the block does on an empty queue; and
the placing of a command at the front for the host's questions. -/

namespace Sys2Proof.Machine

/-- One step: the waiting command first taken is executed with the rest of the queue; an empty queue lets the block act by
itself (log 1, log 3). -/
def step (s : State) : Host.Outcome State Fault Refusal :=
  match s.pending with
  | i :: rest => exec i (s.withPending rest)
  | [] => .next (idleStep s)

/-- The state with the command a word spells at the front of its queue; unchanged where the word spells none, which is
always, since the table gives no row bits. -/
def State.withFetchWord (s : State) (nbits w : Nat) : State :=
  match decodeTableWord nbits w with
  | some i => s.withPending (i :: s.pending)
  | none => s

end Sys2Proof.Machine
end

