-- ==== Sys2Proof/Safety.lean ====
section
/-! DEFINITION. The terms statements are made in: agreement of two states outside named parts, what it is for a request to be
taken and answered, and the invariants the manual states of the machine's blocks. -/

namespace Sys2Proof.Machine

/-! ### Frames -/

/-- The parts of State. -/
inductive Part where
  | pending | lines | sck | slr | cc | axf | vb | vehicleNumber | ptm | dtk | rru | rst | sea | port | startCause | sst | freeCount
deriving DecidableEq, Repr

/-- Two states agree in a part. -/
def Agree (s t : State) : Part → Prop
  | .pending => t.pending = s.pending
  | .lines => t.lines = s.lines
  | .sck => t.sck = s.sck
  | .slr => t.slr = s.slr
  | .cc => t.cc = s.cc
  | .axf => t.axf = s.axf
  | .vb => t.vb = s.vb
  | .vehicleNumber => t.vehicleNumber = s.vehicleNumber
  | .ptm => t.ptm = s.ptm
  | .dtk => t.dtk = s.dtk
  | .rru => t.rru = s.rru
  | .rst => t.rst = s.rst
  | .sea => t.sea = s.sea
  | .port => t.port = s.port
  | .startCause => t.startCause = s.startCause
  | .sst => t.sst = s.sst
  | .freeCount => t.freeCount = s.freeCount

/-- Two states agree in every part but those named. -/
def AgreeOutside (changed : List Part) (s t : State) : Prop := ∀ x, x ∉ changed → Agree s t x

/-- What a sealing with its announcement may change: builders, numbers, trackers, run, store, ports (R115, R117). -/
def sealingChanges : List Part := [.vb, .vehicleNumber, .dtk, .rru, .rst, .port]
/-- What an event of an axle former may change. -/
def formerChanges : List Part := .axf :: sealingChanges
/-- What an event of the data path may change. -/
def trafficChanges : List Part := .slr :: .cc :: .ptm :: formerChanges

/-! ### Requests at a port -/

/-- A direct request is taken at a port: the port takes a frame, the payload fits one, and the destination is the unit address
(R160, R165). -/
def TakenDirect (s : State) (p : Port) (dest : Byte) (payload : List Byte) : Prop :=
  (s.sitePort p).takes = true ∧ payload.length ≤ 1024 ∧ s.addressee p dest = .direct

/-- The port after a direct request was answered: REPLY, holding the request and the reply frame (R159, R164). -/
def AnsweredPort (q : SitePort) (dest code : Byte) (payload : List Byte) (st : Status) (answer : List Byte) : SitePort :=
  { q with
    state := .reply, idle := 0, bitPhase := 0, frameAge := 0, rx := buildFrame dest code payload
    reply := replyFrame dest st answer, driving := false, sentBits := 0 }

/-- The settings store after a direct request of a port: the holder's lease restarted, nothing else (R176). -/
def LeaseRestarted (p : Port) (sst : SettingsStore) : SettingsStore :=
  { sst with edit := sst.edit.map fun e => if e.holder = p then { e with lease := 0 } else e }

/-- A direct request answered at a port, with nothing changed at the other ports. -/
def Answered (s t : State) (p : Port) (dest code : Byte) (payload : List Byte) (st : Status) (answer : List Byte) : Prop :=
  t.port = s.port.set p (AnsweredPort (s.sitePort p) dest code payload st answer)

/-- A direct request that did nothing but be answered: only the port and the holder's lease are touched. -/
def OnlyAnswered (s t : State) (p : Port) (dest code : Byte) (payload : List Byte) (st : Status) (answer : List Byte) : Prop :=
  Answered s t p dest code payload st answer ∧ t.sst = LeaseRestarted p s.sst ∧ AgreeOutside [.port, .sst] s t

/-- The port while a direct request waits in EXECUTE for its grant (R153). -/
def WaitingPort (q : SitePort) (dest code : Byte) (payload : List Byte) : SitePort :=
  { q with state := .execute, idle := 0, bitPhase := 0, frameAge := 0, rx := buildFrame dest code payload }

/-- A direct request that waits in EXECUTE for its grant. -/
def WaitsForGrant (s t : State) (p : Port) (dest code : Byte) (payload : List Byte) : Prop :=
  t.port = s.port.set p (WaitingPort (s.sitePort p) dest code payload) ∧
    t.sst = LeaseRestarted p s.sst ∧ AgreeOutside [.port, .sst] s t

/-- A port's privileges in the active image. -/
def State.may (s : State) (p : Port) : Privileges := (s.portSet p).privileges

/-- Nothing but one port waits for the store engine, so that the next grant is its own (R153 to R155). -/
def OnlyWaiter (s : State) (p : Port) : Prop :=
  s.sea.engine = .free ∧ s.rst.queue = [] ∧ s.sst.prog.stepReady = false ∧ ∀ q, q ≠ p → (s.sitePort q).waits = false

/-- The store engine after a grant to one port: free, with the port group and that port served last (R153 to R155). -/
def PortServed (s t : State) (p : Port) (key : Bool) : Prop :=
  t.sea = ⟨.portGroup, p, .free⟩ ∧ t.lines = { s.lines with key := key }

/-- A request of a port taken, and then its grant: the first state waits, the second is the outcome. -/
def TakenAndGranted (i : Instr) (key : Bool) (s t u : State) : Prop :=
  exec i s = .next t ∧ exec (.portGrantExecute key) t = .next u

/-! ### Axles -/

/-- The mean of two instants rounded half up: the earlier plus floor((span + 1) / 2) (R46). -/
def MeanOf (a b r : Instant) : Prop :=
  ∃ lo hi : Instant, (lo = a ∧ hi = b ∨ lo = b ∧ hi = a) ∧ 0 ≤ fineSpan hi lo ∧ r = lo + BitVec.ofInt 36 ((fineSpan hi lo + 1) / 2)

/-- The owner of a straddle between a lane and the next higher one, in the words of R50: the loop of a lane in LOOP_FAULT counts as
absent and as never gone present. -/
def StraddleOwner (s : State) (low high owner : Lane) : Prop :=
  let present (l : Lane) : Prop := (s.builder l).present = true ∧ (s.builder l).loopFault = false
  let went (l : Lane) (n : Word32) : Prop := (s.builder l).went = some n ∧ (s.builder l).loopFault = false
  let laterHigh := ∃ h, went high h ∧ ∀ k, went low k → (s.sck.present - h).toNat < (s.sck.present - k).toNat
  (present low → ¬ present high → owner = low) ∧ (¬ present low → present high → owner = high) ∧
    ((present low ↔ present high) → (laterHigh → owner = high) ∧ (¬ laterHigh → owner = low))

/-- A U entry is a candidate for a D row pulse at a speed: the span Δ between them is positive and the speed, row spacing × 12,800 / Δ
rounded half up, lies from 56 to 6,945 cm/s (R56, R59). -/
def Candidate (rowSpacing : Nat) (d u : Instant) (v : Nat) : Prop :=
  let delta := fineSpan d u
  0 < delta ∧ v = (2 * (rowSpacing * 12800) + delta.toNat) / (2 * delta.toNat) ∧ 56 ≤ v ∧ v ≤ 6945

/-- The four stages of a wheel's load at a speed on a lane and row, gain, speed curve, temperature and drift, each rounded and each
worked from the one before kept to 32,767 kg (R61 to R63). -/
def wheelStages (s : State) (l : Lane) (row : Row) (v : Nat) (m : Summary) : List Nat :=
  let by4096 (x f : Nat) : Nat := (min 32767 x * f + 2048) / 4096
  let cfg := s.laneSet l
  let w1 := (m.area * v * (s.channelSet m.ch).gain + 8388608) / 16777216
  let w2 := by4096 w1 (readCurve (if row = .u then cfg.speedU else cfg.speedD) v).toNat
  let w3 := by4096 w2 (if cfg.tempCorrection then (readCurve cfg.tempCurve (s.laneTemp l).value).toNat else 4096)
  [w1, w2, w3, by4096 w3 (s.sst.active.drift.get l)]

/-- The load of a wheel: its last stage, kept to 32,767 kg (R61 to R63). -/
def WheelLoad (s : State) (l : Lane) (row : Row) (v : Nat) (m : Summary) : Nat := min 32767 ((wheelStages s l row v m).getLastD 0)

/-- Whether any stage of a wheel's load exceeds 32,767 kg (R63). -/
def WheelSaturates (s : State) (l : Lane) (row : Row) (v : Nat) (m : Summary) : Prop := ∃ x ∈ wheelStages s l row v m, 32767 < x

/-- The side load of an axle: the mean of its two rows rounded half up, the one present, or 0 (R64). -/
def SideLoad (u d : Option Nat) : Nat := if u.isSome ∧ d.isSome then (u.getD 0 + d.getD 0 + 1) / 2 else u.getD 0 + d.getD 0

/-- An axle formed of a U and a D row pulse at their speed: its instant, speed, loads, generation and flags, and the site time of its
earliest pulse (R56, R59 to R66). -/
def PairsInto (s : State) (l : Lane) (u d : RowPulse) (v : Nat) (a : Axle) : Prop :=
  let ul := u.left.map (WheelLoad s l .u v)
  let ur := u.right.map (WheelLoad s l .u v)
  let dl := d.left.map (WheelLoad s l .d v)
  let dr := d.right.map (WheelLoad s l .d v)
  let ms := u.summaries ++ d.summaries
  let commonU := (if ul.isSome ∧ dl.isSome then ul.getD 0 else 0) + (if ur.isSome ∧ dr.isSome then ur.getD 0 else 0)
  let commonD := (if ul.isSome ∧ dl.isSome then dl.getD 0 else 0) + (if ur.isSome ∧ dr.isSome then dr.getD 0 else 0)
  let has (f : BitVec 8) : Prop := hasAny a.flags f = true
  a.instant = u.instant ∧ a.speed = some v ∧ a.generation = s.generation ∧
    a.left = SideLoad ul dl ∧ a.right = SideLoad ur dr ∧
    a.wU = ul.getD 0 + ur.getD 0 ∧ a.wD = dl.getD 0 + dr.getD 0 ∧
    (∃ m ∈ ms, a.time = m.time ∧ ∀ k ∈ ms, (s.sck.present - k.startScan).toNat ≤ (s.sck.present - m.startScan).toNat) ∧
    (has AFlag.singleRow ↔ (ul.isSome ≠ dl.isSome ∨ ur.isSome ≠ dr.isSome)) ∧
    (has AFlag.oneTrack ↔ (ul = none ∧ dl = none ∨ ur = none ∧ dr = none)) ∧ ¬ has AFlag.unpaired ∧
    (has AFlag.straddle ↔ (u.straddle = true ∨ d.straddle = true)) ∧ (has AFlag.slip ↔ ∃ m ∈ ms, m.slip = true) ∧
    (has AFlag.saturated ↔ (∃ m ∈ ms, m.sat = true) ∨ (∃ m ∈ u.summaries, WheelSaturates s l .u v m) ∨
      ∃ m ∈ d.summaries, WheelSaturates s l .d v m) ∧ (has AFlag.speedRange ↔ (v < 139 ∨ 5556 < v)) ∧
    (has AFlag.rowDisagree ↔ s.site.rowAgreement * (commonU + commonD) < ((commonU : Int) - commonD).natAbs * 200)

/-- The axle of a row pulse without a partner: no speed, no load, UNPAIRED, and STRADDLE, SLIP and SATURATED as its pulses have them; its
site time is that of its earliest pulse (R57, R66). -/
def UnpairedOf (s : State) (r : RowPulse) (a : Axle) : Prop :=
  a.instant = r.instant ∧ a.speed = none ∧ a.left = 0 ∧ a.right = 0 ∧ a.wU = 0 ∧ a.wD = 0 ∧ a.generation = s.generation ∧
    hasAny a.flags AFlag.unpaired = true ∧ hasAny a.flags (AFlag.singleRow ||| AFlag.oneTrack ||| AFlag.speedRange ||| AFlag.rowDisagree) = false ∧
    (hasAny a.flags AFlag.straddle = true ↔ r.straddle = true) ∧ (hasAny a.flags AFlag.slip = true ↔ ∃ m ∈ r.summaries, m.slip = true) ∧
    (hasAny a.flags AFlag.saturated = true ↔ ∃ m ∈ r.summaries, m.sat = true) ∧
    (r.summaries ≠ [] → ∃ m ∈ r.summaries, a.time = m.time ∧
      ∀ k ∈ r.summaries, (s.sck.present - k.startScan).toNat ≤ (s.sck.present - m.startScan).toNat)

/-- A one-track row pulse of a half (R47). -/
def oneTrackOf (m : Summary) : RowPulse :=
  { lane := m.ch.lane, row := m.ch.row, instant := m.centroid, straddle := false
    left := if m.ch.side = .left then some m else none, right := if m.ch.side = .right then some m else none }

/-- An axle is the newest of its lane's vehicle: so it is on an OPEN lane whose context is not DEFERRED and stands at the current
generation (R97, R103). -/
def JoinsAsNewest (s t : State) (l : Lane) (a : Axle) : Prop :=
  (s.builder l).mode = .open → (s.ctx l).state ≠ .deferred → ((s.ctx l).state ≠ .idle → (s.ctx l).stamp = s.generation) →
    (t.ctx l).axles.getLast?.map HeldAxle.axle = some a

/-- The half of a row pulse on one side. -/
def RowPulse.half (r : RowPulse) : Side → Option Summary
  | .left => r.left
  | .right => r.right

/-- How many of the row pulses of a row lack the half of a side. -/
def absent (rows : List RowPulse) (row : Row) (side : Side) : Nat := (rows.filter fun r => r.row == row && (r.half side).isNone).length

/-- A channel's miss count, at `n` before, reaches 32 by the halves that these row pulses lack (R69). -/
def GoesSilent (rows : List RowPulse) (n : Nat) (s : State) (c : Channel) : Prop :=
  (s.channelSet c).enabled = true ∧ n < 32 ∧ 32 ≤ n + absent rows c.row c.side

/-- A lane's channel health after the axles of these row pulses, none of them a straddle, with the miss counts `n` before them: every
enabled channel's count goes up by one for each row pulse of its row that lacks its half, stopping at 32, and every other count stays; a
count that reaches 32 latches "channel silent" and SITE_ALARM at every port (R68, R69). -/
def MissesCounted (rows : List RowPulse) (n : Channel → Nat) (s t : State) (l : Lane) : Prop :=
  ∀ c : Channel, c.lane = l →
    (t.former l).miss.get c.row c.side =
      (if (s.channelSet c).enabled ∧ 0 < absent rows c.row c.side then min 32 (n c + absent rows c.row c.side) else n c) ∧
    (GoesSilent rows (n c) s c → ∀ p, hasAny (t.sitePort p).details Detail.channelSilent.mask = true ∧
      hasAny (t.sitePort p).cond Condition.siteAlarm.mask = true)

/-- The miss counts of a state. -/
def State.misses (s : State) (c : Channel) : Nat := (s.former c.lane).miss.get c.row c.side

/-- The miss counts of a state once a summary has cleared its channel's (R45). -/
def State.missesCleared (s : State) (c k : Channel) : Nat := if k = c then 0 else s.misses k

/-- The row pulses whose axle, unpaired, is not a straddle (R57, R68). -/
def ownRows (rows : List RowPulse) : List RowPulse := rows.filter fun r => !r.straddle

/-- A U row pulse inserted into its lane's list, with the miss counts `n` before: after every entry earlier than or equal to it and before
every later one, with no count moved; where that makes nine, the oldest of the nine is forced out and handed on as an unpaired axle, which
is counted, and the other eight are the list (R54, R57, R68). -/
def InsertedUpstream (r : RowPulse) (n : Channel → Nat) (s t : State) : Prop :=
  let l := r.lane
  ∀ before after, (s.former l).upstream = before ++ after → (∀ e ∈ before, 0 ≤ fineSpan r.instant e.instant) →
    (∀ e ∈ after, fineSpan r.instant e.instant < 0) →
    (before.length + after.length < 8 →
      (t.former l).upstream = before ++ r :: after ∧ ∀ c : Channel, c.lane = l → t.misses c = n c) ∧
    (before.length + after.length = 8 → ∀ oldest rest, before ++ r :: after = oldest :: rest →
      (t.former l).upstream = rest ∧
      (oldest.lane = l → (∃ a, UnpairedOf s oldest a ∧ JoinsAsNewest s t l a) ∧ MissesCounted (ownRows [oldest]) n s t l))

/-- A D row pulse paired at once, with the miss counts `n` before. The oldest candidate of its lane's list and the D row pulse form the
paired axle; the entries older than it leave as unpaired axles and the younger ones stay. Without a candidate the D row pulse is an unpaired
axle and the list stays. Every axle that is no straddle is counted, row by row (R53, R56, R57, R59 to R66, R68). -/
def PairedDownstream (d : RowPulse) (n : Channel → Nat) (s t : State) : Prop :=
  let l := d.lane
  let list := (s.former l).upstream
  let spacing := (s.laneSet l).rowSpacing
  (∀ e ∈ list, e.lane = l) →
    (∀ older u v younger, list = older ++ u :: younger → (∀ e ∈ older, ∀ k, ¬ Candidate spacing d.instant e.instant k) →
      Candidate spacing d.instant u.instant v →
      (t.former l).upstream = younger ∧ (∃ a, PairsInto s l u d v a ∧ JoinsAsNewest s t l a) ∧
        MissesCounted (ownRows older ++ if u.straddle ∨ d.straddle then [] else [u, d]) n s t l) ∧
    ((∀ e ∈ list, ∀ k, ¬ Candidate spacing d.instant e.instant k) →
      (t.former l).upstream = list ∧ (∃ a, UnpairedOf s d a ∧ JoinsAsNewest s t l a) ∧ MissesCounted (ownRows [d]) n s t l)

/-- The own-lane row pulse of two halves of one row, at their mean instant (R46). -/
def ownLanePulse (m n : Summary) (instant : Instant) : RowPulse :=
  { lane := m.ch.lane, row := m.ch.row, instant := instant, straddle := false
    left := if m.ch.side = .left then some m else some n, right := if m.ch.side = .left then some n else some m }

/-- The straddle row pulse of two facing halves that belongs to an owner lane: the right half of the lower lane is its left side (R51). -/
def straddleOf (owner : Lane) (m n : Summary) (instant : Instant) : RowPulse :=
  { lane := owner, row := m.ch.row, instant := instant, straddle := true
    left := if m.ch.side = .right then some m else some n, right := if m.ch.side = .right then some n else some m }

/-- A row pulse taken on, with the miss counts `n` before: a U row pulse into its lane's list, a D row pulse to pairing at once (R53). -/
def RowPulseTaken (r : RowPulse) (n : Channel → Nat) (s t : State) : Prop :=
  (r.row = .u → InsertedUpstream r n s t) ∧ (r.row = .d → PairedDownstream r n s t)

/-- No other lanes' lists and miss counts are touched than those named, whose lists hold row pulses of their own lane. -/
def OnlyLanes (lanes : List Lane) (n : Channel → Nat) (s t : State) : Prop :=
  (∀ l ∈ lanes, ∀ e ∈ (s.former l).upstream, e.lane = l) →
    ∀ l, l ∉ lanes → (t.former l).upstream = (s.former l).upstream ∧ ∀ c : Channel, c.lane = l → t.misses c = n c

/-- A row pulse taken on by itself: no other lane's list and miss counts are touched, and a U row pulse for which its lane's list has room
moves no count and no other list, and, the lane's vehicle not being DEFERRED, touches nothing past the formers but the parts named. -/
def RowPulseAlone (others : List Part) (r : RowPulse) (n : Channel → Nat) (s t : State) : Prop :=
  RowPulseTaken r n s t ∧ OnlyLanes [r.lane] n s t ∧
    (r.row = .u → (s.former r.lane).upstream.length < 8 →
      (∀ c, t.misses c = n c) ∧ (∀ l, l ≠ r.lane → (t.former l).upstream = (s.former l).upstream) ∧
      ((s.ctx r.lane).state ≠ .deferred → AgreeOutside (.axf :: others) s t))

/-- Every slot holds, if anything, a summary of its own channel (R45). -/
def SlotsOk (s : State) : Prop := ∀ c m, (s.slot c).held = some m → m.ch = c

/-- Every entry of a lane's upstream pending list is a row pulse of that lane (R53, R54). -/
def ListsOk (s : State) : Prop := ∀ l, ∀ e ∈ (s.former l).upstream, e.lane = l

/-- A half that leaves its slot, at its window end or displaced, with the miss counts `n` before. It is a one-track row pulse where no half
faces it, where the facing half is OPEN beyond the tolerance of 16 × W_c, or OPEN at all when it is displaced; the facing slot is then as it
was. Where the facing half is WAITING, both leave: within the tolerance as one straddle row pulse of the owner lane, and beyond it, where
every list holds entries of its own lane, as two one-track row pulses (R45, R47, R48, R50, R51; the last is log 10). -/
def HalfLeaves (displaced : Prop) (others : List Part) (m : Summary) (n : Channel → Nat) (s t : State) : Prop :=
  let c := m.ch
  let near (k : Summary) : Prop := (fineSpan m.centroid k.centroid).natAbs ≤ 16 * s.site.coincidence
  ((∀ d, facing c = some d → s.slot d = .empty ∨ ∃ k w, s.slot d = .open k w ∧ (displaced ∨ ¬ near k)) →
    RowPulseAlone others (oneTrackOf m) n s t ∧ ∀ d, facing c = some d → t.slot d = s.slot d) ∧
  (∀ d k, facing c = some d → s.slot d = .waiting k → k.ch = d → t.slot d = .empty ∧
    (near k → ∃ owner instant, MeanOf m.centroid k.centroid instant ∧
      (c.lane.number < d.lane.number → StraddleOwner s c.lane d.lane owner) ∧
      (d.lane.number < c.lane.number → StraddleOwner s d.lane c.lane owner) ∧
      RowPulseAlone others (straddleOf owner m k instant) n s t) ∧
    (¬ near k → ListsOk s → RowPulseTaken (oneTrackOf m) n s t ∧ RowPulseTaken (oneTrackOf k) n s t ∧ OnlyLanes [c.lane, d.lane] n s t))

/-! ### Temperatures -/

/-- A lane's temperature re-evaluated from the probes as they stand: a GOOD primary, else a GOOD secondary, else the mean of the GOOD
probes truncated toward zero, else HELD, whose time starts at 0 at entry and goes on otherwise; FROST and HOT follow the value with
their hysteresis (R82 to R84). -/
def LaneReevaluated (m : TempMonitor) (map : ProbeMap) (a b : LaneTemp) : Prop :=
  let good (p : Probe) : Prop := (m.probe.get p).state = .good
  let value (p : Probe) : Int := (m.probe.get p).f.getD 0
  let goods := Probe.all.filter fun p => (m.probe.get p).state == .good
  let from' (source : TempSource) (v : Int) : Prop := b.source = source ∧ b.value = v ∧ b.held = 0 ∧ b.lostDue = false
  (good map.primary → from' .primary (value map.primary)) ∧
  (¬ good map.primary → good map.secondary → from' .secondary (value map.secondary)) ∧
  (¬ good map.primary → ¬ good map.secondary → goods ≠ [] → from' .siteMean (Int.tdiv (goods.map value).sum goods.length)) ∧
  (goods = [] → b.source = .held ∧ b.value = a.value ∧
    (a.source = .held → b.held = a.held ∧ b.lostDue = a.lostDue) ∧ (a.source ≠ .held → b.held = 0 ∧ b.lostDue = false)) ∧
  b.frost = (if b.value ≤ 10 then true else if 20 ≤ b.value then false else a.frost) ∧
  b.hot = (if 550 ≤ b.value then true else if b.value ≤ 530 then false else a.hot)

/-! ### Vehicles -/

/-- The context a loop-less vehicle opens with, holding its first axle (R95, R99). -/
def looplessWith (s : State) (l : Lane) (a : Axle) (flags : BitVec 24) : Context :=
  { state := .closing, loopKind := false, axles := [⟨a, 0⟩], ref := 0, timer := some ⟨0, s.site.closeDelay * 8⟩, stamp := s.generation
    openTime := s.sck.strobeTime, cont := false, flags := if (s.builder l).loopFault then flags ||| VFlag.loopFault else flags }

/-- A context after an axle of it has arrived: a loop-less vehicle is CLOSING with its close timer restarted (R96, R97). -/
def retimed (s : State) (c : Context) : Context :=
  if c.loopKind = false ∧ c.state ≠ .open then { c with state := .closing, timer := some ⟨0, s.site.closeDelay * 8⟩ } else c

/-- A trigger at an opening: the line goes high with its timer at 0 in ON_OPEN and BOTH, and is otherwise as it was (R116). -/
def openingPulse (s : State) (l : Lane) : Option Timer :=
  if (s.laneSet l).triggerMode = .onOpen ∨ (s.laneSet l).triggerMode = .both then some ⟨0, (s.laneSet l).triggerWidth * 8⟩
  else (s.builder l).pulse

/-- A class rule matches a vehicle: its axle count, every window and the bounds of the gross weight (R109). -/
def RuleMatches (r : ClassRule) (axles : List HeldAxle) (gross : Nat) : Prop :=
  r.axles = axles.length ∧ (∀ m ∈ r.grossMin, m ≤ gross) ∧ (∀ m ∈ r.grossMax, gross ≤ m) ∧
    ∀ k h, axles[k + 1]? = some h → ∃ w, r.windows[k]? = some w ∧ w.lo ≤ h.spacing ∧ h.spacing ≤ w.hi

/-- The axles of a record's group, those whose group number is k (R107). -/
def Record.group (r : Record) (k : Nat) : List AxleEntry := r.axles.filter fun a => a.group == k

/-- The item an overload detail names, with its measured load and its limit (R110, R111). -/
def Measured (lim : Limits) (r : Record) (kind : OverKind) (index measured limit : Nat) : Prop :=
  (kind = .axle ∧ limit = lim.single ∧ ∃ k a, index = k + 1 ∧ r.axles[k]? = some a ∧ measured = a.left + a.right) ∨
  (kind = .group ∧ 2 ≤ (r.group index).length ∧ measured = ((r.group index).map fun a => a.left + a.right).sum ∧
    limit = if (r.group index).length = 2 then lim.tandem else if (r.group index).length = 3 then lim.tridem
      else (r.group index).length * lim.multi) ∨
  (kind = .gross ∧ index = 0 ∧ measured = r.gross ∧ limit = lim.gross)

/-- An exceedance of a record: an item above its limit by more than the tolerance, a limit of 0 not being checked (R110). -/
def Exceedance (tolerance : Nat) (lim : Limits) (r : Record) (o : Overload) : Prop :=
  ∃ measured limit, Measured lim r o.kind o.index measured limit ∧ limit ≠ 0 ∧ limit * (100 + tolerance) < measured * 100 ∧
    o.excess = min 65535 (measured - limit)

/-- One exceedance ranks before another of equal excess: AXLE, GROUP, GROSS, and then by index (R111). -/
def RanksFirst (o p : Overload) : Prop :=
  p.excess < o.excess ∨ p.excess = o.excess ∧ (o.kind.code < p.kind.code ∨ o.kind = p.kind ∧ o.index ≤ p.index)

/-- The context's close timer has run out in CLOSING, with its reference instant as the expiry takes it: a loop-less vehicle's is the
strobe's (R98). -/
def ClosesNow (s : State) (l : Lane) (ref : Instant) : Prop :=
  (s.ctx l).state = .closing ∧ (∃ k, (s.ctx l).timer = some k ∧ k.limit ≤ k.count) ∧
    ref = if (s.ctx l).loopKind then (s.ctx l).ref else fineOfScan s.sck.present

/-- No entry of the lane's upstream list is older than an instant (R98). -/
def NoneOlder (s : State) (l : Lane) (ref : Instant) : Prop := ∀ e ∈ (s.former l).upstream, ¬ 0 < fineSpan ref e.instant

/-- A vehicle disturbed on a lane by a link loss or a settings change: an idle lane is left alone, and a continuation that has no axle
yet is dropped (log 13); any other vehicle is sealed with the flag under its own stamp and followed by its continuation, which keeps all
but the axles, the stamp and the flags (R102 to R104). No trigger fires for a continuation (R104, R116). The sealed record is in the queue
where no more than the three lanes' vehicles, and one other, can be there and numbers are left for them. -/
def Disturbed (flag : BitVec 24) (s t : State) (l : Lane) : Prop :=
  let c := s.ctx l
  t.builder l = { s.builder l with ctx := t.ctx l, pulse := (t.builder l).pulse } ∧
  ((t.laneSet l).triggerMode = .off ∨ (t.laneSet l).triggerMode = .onOpen → (t.builder l).pulse = (s.builder l).pulse) ∧
  (c.state = .idle → t.ctx l = c) ∧
  (c.state ≠ .idle → c.cont = true → c.axles = [] → t.ctx l = .idle) ∧
  (c.state ≠ .idle → ¬ (c.cont = true ∧ c.axles = []) →
    t.ctx l = { c with
      axles := [], stamp := t.generation, cont := true
      flags := if (s.builder l).loopFault then flag ||| VFlag.loopFault else flag } ∧
    (s.rst.queue.length ≤ 1 → s.vehicleNumber + 3 ≤ 4294967295 →
      ∃ r ∈ t.rst.queue, r.lane = l ∧ hasAny r.flags flag = true ∧ r.generation = c.stamp ∧ r.axles.length = c.axles.length))

/-- The record of a vehicle sealed on a lane: its stamp as generation, its axles, and every flag it gathered or is sealed with (R112, R114,
R117). -/
def RecordsVehicle (flag : BitVec 24) (c : Context) (l : Lane) (r : Record) : Prop :=
  r.lane = l ∧ r.generation = c.stamp ∧ r.flags &&& (c.flags ||| flag) = c.flags ||| flag ∧
    r.axles.map (fun a => (a.left, a.right, a.spacing, a.flags)) =
      c.axles.map (fun h => (h.axle.left, h.axle.right, h.spacing, h.axle.flags))

/-- A vehicle sealed: it takes the next vehicle number and its record is the queue's newest, or is counted as dropped where the queue is
full; at the counter's end it takes no number and is not queued (R115, R117, R144). -/
def SealedNext (flag : BitVec 24) (c : Context) (l : Lane) (s t : State) : Prop :=
  (s.vehicleNumber < 4294967295 → t.vehicleNumber = s.vehicleNumber + 1 ∧
    (s.rst.queue.length < 4 → ∃ r, t.rst = { s.rst with queue := s.rst.queue ++ [r] } ∧ r.number = s.vehicleNumber ∧
      RecordsVehicle flag c l r) ∧
    (4 ≤ s.rst.queue.length → t.rst = { s.rst with dropped := min 65535 (s.rst.dropped + 1) })) ∧
  (4294967295 ≤ s.vehicleNumber → t.vehicleNumber = s.vehicleNumber ∧ t.rst = s.rst) ∧
  (4294967295 ≤ s.vehicleNumber ∨ 4 ≤ s.rst.queue.length →
    ∀ p, hasAny (t.sitePort p).details Detail.recordDropped.mask = true)

/-- A disturbance taken by one builder alone: an idle lane is left as it is, a continuation without an axle is dropped (log 13), and any
other vehicle is sealed with the flag and followed by its continuation, which keeps all but the axles, the stamp and the flags (R102 to
R104). -/
def DisturbedNext (flag : BitVec 24) (l : Lane) (s t : State) : Prop :=
  let c := s.ctx l
  (c.state = .idle → t = s) ∧
  (c.state ≠ .idle → c.cont = true → c.axles = [] → t = s.withCtx l .idle) ∧
  (c.state ≠ .idle → ¬ (c.cont = true ∧ c.axles = []) →
    t.ctx l = { c with
      axles := [], stamp := s.generation, cont := true
      flags := if (s.builder l).loopFault then flag ||| VFlag.loopFault else flag } ∧
    SealedNext flag c l s t ∧ (∀ k, k ≠ l → t.builder k = s.builder k) ∧ AgreeOutside sealingChanges s t)

/-- Axles taken by a lane's builder in the order given (R67); what each does there is AxleArrives. -/
def State.arrivals (s : State) (l : Lane) (axles : List Axle) : State := axles.foldl (fun u a => axleArrival l a u) s

/-- The check of DEFERRED after an event of the former whose axles the builder has taken, from that state to the event's end. When it is due
and no entry of the lane's list is older than the reference instant, a vehicle in DEFERRED is sealed under its own stamp with its axles, or
is a continuation without an axle and dropped; otherwise nothing more is done (R98, R104). The formers and the ports are left open. -/
def DeferralChecked (due : Prop) (list : List RowPulse) (l : Lane) (s t : State) : Prop :=
  let c := s.ctx l
  let ends := due ∧ c.state = .deferred ∧ ∀ e ∈ list, ¬ 0 < fineSpan c.ref e.instant
  (¬ ends → AgreeOutside [.axf, .port] s t) ∧
  (ends → c.cont = true → c.axles = [] → AgreeOutside [.axf, .port] (s.withCtx l .idle) t) ∧
  (ends → ¬ (c.cont = true ∧ c.axles = []) → t.ctx l = .idle ∧ SealedNext 0 c l s t ∧ ∀ k, k ≠ l → t.builder k = s.builder k)

/-- A rise of the calibration generation taken by a builder: the vehicle of an affected lane, or one that holds a straddle axle, is
disturbed; any other vehicle takes the new generation as its stamp; an idle lane is left alone (R103). -/
def RiseTaken (affected : Prop) (s t : State) (l : Lane) : Prop :=
  let disturbed := affected ∨ ∃ h ∈ (s.ctx l).axles, hasAny h.axle.flags AFlag.straddle = true
  (disturbed → Disturbed VFlag.settingsChanged s t l) ∧
    (¬ disturbed → t.builder l = { s.builder l with
      ctx := if (s.ctx l).state = .idle then s.ctx l else { s.ctx l with stamp := t.generation } })

/-! ### Reference runs -/

/-- A speed point is the one nearest a speed, and of two at equal distance the lower-numbered (R134). -/
def NearestPoint (v : Int) (points : List SpeedPoint) (i : Nat) : Prop :=
  ∃ x, points[i]? = some x ∧ ∀ j y, points[j]? = some y →
    (x.x - v).natAbs ≤ (y.x - v).natAbs ∧ (j < i → (x.x - v).natAbs < (y.x - v).natAbs)

/-- The proposal for a point whose present y, ratio sum and count are given: the y times the mean ratio over 4,096, rounded, within 2,048
and 8,191; without accepted passes, the present y (R137). -/
def ProposedY (y : Int) (sum count : Nat) : Int :=
  if count = 0 then y else max 2048 (min 8191 ((y * ((2 * sum + count) / (2 * count) : Nat) + 2048) / 4096))

/-! ### Start-up -/

/-- Every block but the settings store at its start-up values: conditioners as their channels are enabled, lanes in a mode, ports
at their line rates, and RESTARTED, with defaults SITE_ALARM and "settings invalid" too (R22, R42, R73, R90, R120, R131, R140, R157,
R174; log 23 for the fields the manual gives no value). -/
def StartedBlocks (t : State) (enabled : Channel → Bool) (mode : LaneMode) (rate : Port → LineRate) (defaults : Bool) : Prop :=
  t.sck = .start ∧ t.slr = .start ∧ (∀ c, t.conditioner c = .start (enabled c)) ∧ t.axf = .all .start ∧
    (∀ l, t.builder l = .start mode) ∧ t.vehicleNumber = 1 ∧ t.ptm = .start ∧ t.dtk = .all .start ∧ t.rru = .start ∧
    t.rst = .start ∧ t.sea = .start ∧ (∀ p, t.sitePort p = .start (rate p) defaults)

/-- The parts a start-up may change: all but the queue, the levels of the pins and the draw counter (log 25). -/
def startUpChanges : List Part :=
  [.sck, .slr, .cc, .axf, .vb, .vehicleNumber, .ptm, .dtk, .rru, .rst, .sea, .port, .startCause, .sst]

/-! ### The data path -/

/-- The margin latches after a change of the occupancy to `occ`: MARGIN2 at a margin of 2 or less, MARGIN1 at 1 or less, the
receiver's own and every port's, with the detail "scan link" (R17, R168). -/
def MarginsLatched (occ : Nat) (s t : State) : Prop :=
  let m := min occ (16 - occ)
  t.slr.margin2 = (s.slr.margin2 || decide (m ≤ 2)) ∧ t.slr.margin1 = (s.slr.margin1 || decide (m ≤ 1)) ∧
    (m ≤ 2 → ∀ p, hasAny (t.sitePort p).details Detail.scanLink.mask = true ∧
      hasAny (t.sitePort p).details Detail.margin2.mask = true) ∧
    (m ≤ 1 → ∀ p, hasAny (t.sitePort p).details Detail.margin1.mask = true)

/-- What a delivered scan's conversion does to the monitor: its slot becomes the reference; without a SLIP mark it joins its
probe's sum when the reference was none or its predecessor, and is discarded and counted otherwise, with "probe slot order" latched;
under a SLIP mark it is discarded alone (R74, R75). -/
def ConversionTaken (d : Scan) (slip : Bool) (s t : State) : Prop :=
  let inOrder := ∀ r, s.ptm.slotRef = some r → r.succ = d.slot
  let unchanged := ∀ p, (t.ptm.probe.get p).sum = (s.ptm.probe.get p).sum ∧ (t.ptm.probe.get p).count = (s.ptm.probe.get p).count
  t.ptm.slotRef = some d.slot ∧
    (slip = false → inOrder → t.ptm.discards = s.ptm.discards ∧ ∀ p,
      (t.ptm.probe.get p).sum = (s.ptm.probe.get p).sum + (if p = d.slot then d.conversion.toNat else 0) ∧
      (t.ptm.probe.get p).count = (s.ptm.probe.get p).count + (if p = d.slot then 1 else 0)) ∧
    (slip = false → ¬ inOrder → unchanged ∧ t.ptm.discards = min 65535 (s.ptm.discards + 1) ∧
      ∀ p, hasAny (t.sitePort p).details Detail.probeSlotOrder.mask = true) ∧
    (slip = true → unchanged ∧ t.ptm.discards = s.ptm.discards)

/-- A former that holds no half and no U entry. -/
def AxleFormer.isEmpty (f : AxleFormer) : Prop := f.slots = .all .empty ∧ f.upstream = []

/-- The row pulses of an axle former at a link loss: the entries of its list and, from every half in its slots, a one-track row pulse
(R70). -/
def State.flushed (s : State) (l : Lane) : List RowPulse :=
  (s.former l).upstream ++ [⟨l, .u, .left⟩, ⟨l, .u, .right⟩, ⟨l, .d, .left⟩, ⟨l, .d, .right⟩].filterMap fun c =>
    ((s.slot c).held.map oneTrackOf)

/-- Instants near enough to the present that no span between two of them wraps. -/
def NearPresent (s : State) (k : Instant) : Prop := (fineSpan (fineOfScan s.sck.present) k).natAbs < 2 ^ 33

/-- A link loss at a lane's builder: the unpaired axles of the flushed row pulses arrive in the order of their instants, oldest first, where
the list was in that order; then the notice seals the vehicle with LINK_LOSS; and a continuation that stands in DEFERRED ends with the list
emptied (R67, R70, R98, R102, R104; that the notice comes before that last check, and the order of equal instants, are log 11). -/
def FlushTaken (l : Lane) (s t : State) : Prop :=
  let list := (s.former l).upstream
  let inOrder (rs : List RowPulse) : Prop := rs.Pairwise fun e f => 0 ≤ fineSpan f.instant e.instant
  ∃ (rows : List RowPulse) (axles : List Axle) (u : State),
    rows.Perm (s.flushed l) ∧ (inOrder list → (∀ e ∈ s.flushed l, NearPresent s e.instant) → inOrder rows) ∧
    List.Forall₂ (UnpairedOf s) rows axles ∧ DisturbedNext VFlag.linkLoss l (s.arrivals l axles) u ∧
    t = if list ≠ [] ∧ (u.ctx l).state = .deferred then u.withCtx l .idle else u

/-- What a link loss does past the receiver: every conditioner that is not DISABLED waits in ACQUIRE with nothing of a pulse and an
empty history, the formers are empty, the monitor's accumulators and slot reference are cleared, "scan link" is latched, and no
vehicle whose former held U entries is left in DEFERRED (R19, R32, R70, R76, R98; that a due end of a pulse goes too is log 37, a due
reading log 41). Where every slot and list holds its own lane's, each lane in turn (log 36) takes the axles of its flushed row pulses and
then the notice, and each axle that is no straddle counts the channels its row pulse lacks (R68 to R70). With every former empty, each
lane's vehicle is sealed with LINK_LOSS and followed by its continuation, unless it was itself a continuation without an axle, which is
dropped (R102, R104, log 13). -/
def DataPathEmptied (s t : State) : Prop :=
  (∀ c, t.conditioner c = if (s.conditioner c).state = .disabled then s.conditioner c else { s.conditioner c with
    state := .acquire, acq := 0, hist := [], tail := 0, com := .clear, ten := .clear, due := .none }) ∧
  (∀ l, (t.former l).isEmpty ∧ ((s.former l).upstream ≠ [] → (t.ctx l).state ≠ .deferred)) ∧
  t.ptm.slotRef = none ∧ (∀ p, (t.ptm.probe.get p).sum = 0 ∧ (t.ptm.probe.get p).count = 0) ∧
  t.ptm.lane = s.ptm.lane ∧ t.ptm.discards = s.ptm.discards ∧
  (∀ p, hasAny (t.sitePort p).details Detail.scanLink.mask = true) ∧
  ((∀ l, (s.former l).isEmpty) → ∀ l, Disturbed VFlag.linkLoss s t l) ∧
  (SlotsOk s → ListsOk s →
    (∀ l, MissesCounted (ownRows (s.flushed l)) s.misses s t l) ∧
    ∃ a b c, FlushTaken .one s a ∧ FlushTaken .two a b ∧ FlushTaken .three b c ∧
      t.vb = c.vb ∧ t.vehicleNumber = c.vehicleNumber ∧ t.rst = c.rst ∧ t.dtk = c.dtk ∧ t.rru = c.rru)

/-! ### Checks and protected items of a commit -/

/-- The x of a curve's points strictly ascend (section 9.3, check 1). -/
def CurveRises (k : Curve) : Prop := ∀ i a b, k[i]? = some a → k[i + 1]? = some b → a.x < b.x

/-- A cross-item check of section 9.3 fails at the item of an id and index (R39, R71, R86, R108, R186). -/
def CheckFails (cfg : Settings) (order id index : Nat) : Prop :=
  (order = 1 ∧
    ((∃ l r, id = 50 ∧ index = 2 * (l.number - 1) + (if r = .u then 0 else 1) ∧ ¬ CurveRises ((cfg.lane.get l).speedCurve r)) ∨
     (∃ l, id = 51 ∧ index = l.number ∧ ¬ CurveRises (cfg.lane.get l).tempCurve) ∨
     (∃ p, id = 64 ∧ index = p.number ∧ ¬ CurveRises (cfg.probe.get p).curve))) ∨
  (order = 2 ∧ id = 34 ∧ ∃ c, index = c.index ∧ (getCh cfg.channel c).tOn < (getCh cfg.channel c).tOff) ∨
  (order = 3 ∧ id = 32 ∧ ∃ l, index = l.number ∧
    (let f := (cfg.lane.get l).fir
     let taps := 2 * (f.c0 + f.c1 + f.c2 + f.c3 + f.c4) + f.c5
     taps < 2048 ∨ 8192 < taps)) ∨
  (order = 4 ∧ id = 86 ∧ ∃ i rule, i < cfg.site.classRuleCount ∧ cfg.rules[i]? = some rule ∧ index = i + 1 ∧
    rule.windows.length + 1 ≠ rule.axles) ∨
  (order = 5 ∧ id = 67 ∧ ∃ l, index = l.number ∧ (cfg.lane.get l).probeMap.primary = (cfg.lane.get l).probeMap.secondary)

/-- The failure a refused COMMIT names: of the first check that fails (R179), and within it of the least id and then the least index
(log 20). -/
def FirstFailing (cfg : Settings) (id index : Nat) : Prop :=
  ∃ order, CheckFails cfg order id index ∧
    ∀ o i k, CheckFails cfg o i k → order < o ∨ order = o ∧ (id < i ∨ id = i ∧ index ≤ k)

/-- A probe's protected items differ (section 4.6). -/
def ProbeItemChanged (old new : Settings) (p : Probe) : Prop :=
  let a := old.probe.get p
  let b := new.probe.get p
  a.curve ≠ b.curve ∨ a.openT ≠ b.openT ∨ a.shortT ≠ b.shortT

/-- A protected item that belongs to a lane differs: one of a channel of the lane, of the lane itself, or of a probe that the lane's map
names, in the old settings or the new (R178, R180). -/
def LaneItemChanged (old new : Settings) (l : Lane) : Prop :=
  (∃ c : Channel, c.lane = l ∧
    (let a := getCh old.channel c
     let b := getCh new.channel c
     a.gain ≠ b.gain ∨ a.enabled ≠ b.enabled ∨ a.tOn ≠ b.tOn ∨ a.tOff ≠ b.tOff ∨ a.hold ≠ b.hold)) ∨
  (let a := old.lane.get l
   let b := new.lane.get l
   a.rowSpacing ≠ b.rowSpacing ∨ a.fir ≠ b.fir ∨ a.speedU ≠ b.speedU ∨ a.speedD ≠ b.speedD ∨ a.tempCurve ≠ b.tempCurve ∨
     a.tempCorrection ≠ b.tempCorrection ∨ a.driftMode ≠ b.driftMode ∨ a.refClass ≠ b.refClass ∨
     a.refGrossMin ≠ b.refGrossMin ∨ a.driftTarget ≠ b.driftTarget) ∨
  ∃ m p, (m = (old.lane.get l).probeMap ∨ m = (new.lane.get l).probeMap) ∧ (m.primary = p ∨ m.secondary = p) ∧
    ProbeItemChanged old new p

/-- Some protected item differs: one that belongs to a lane, one of a probe no lane names, **auto drift permitted** or a port's
**port privileges** (R178, and the tables of sections 2.5, 3.11, 4.6, 6.1.5 and 8.6). -/
def ProtectedItemChanged (old new : Settings) : Prop :=
  (∃ l, LaneItemChanged old new l) ∨ (∃ p, ProbeItemChanged old new p) ∨ old.site.autoDrift ≠ new.site.autoDrift ∨
    ∃ p, (old.port.get p).privileges ≠ (new.port.get p).privileges

/-! ### Applied commits -/

/-- A conditioner told of its own items, old and new: turned off it is DISABLED with nothing of a pulse and an empty history; turned on,
or left on with its coefficients, thresholds or hold count changed, it waits in ACQUIRE with nothing of a pulse, its history kept; otherwise
it is not disturbed (R40; that a due end of a pulse goes with it is log 37). -/
def ConditionerRetold (oldFir newFir : Fir) (old new : ChannelSettings) (a b : Conditioner) : Prop :=
  let quiet := { a with tail := 0, com := .clear, ten := .clear, due := .none }
  let same := oldFir = newFir ∧ old.tOn = new.tOn ∧ old.tOff = new.tOff ∧ old.hold = new.hold
  b = if old.enabled then
      if new.enabled then (if same then a else { quiet with state := .acquire, acq := 0 })
      else { quiet with state := .disabled, hist := [] }
    else if new.enabled then { quiet with state := .acquire, acq := 0 } else a

/-- The monitor told of a commit: each probe whose items changed is in NONE, unseeded, its counts cleared and its stale timer stopped, the
accumulator and the last reading kept; the others are as before. Such a probe latches "probe state" (log 31) and has every lane
re-evaluated; with none, the lanes whose probe map changed are re-evaluated and the others left (R81, R88). -/
def MonitorRetold (old new : Settings) (s t : State) : Prop :=
  let changed (p : Probe) : Prop := old.probe.get p ≠ new.probe.get p
  let mapChanged (l : Lane) : Prop := (old.lane.get l).probeMap ≠ (new.lane.get l).probeMap
  let reevaluated (l : Lane) : Prop := LaneReevaluated t.ptm (new.lane.get l).probeMap (s.laneTemp l) (t.laneTemp l)
  t.ptm.slotRef = s.ptm.slotRef ∧ t.ptm.discards = s.ptm.discards ∧
  (∀ p, t.ptm.probe.get p = if old.probe.get p = new.probe.get p then s.ptm.probe.get p else { s.ptm.probe.get p with
    state := .none, f := none, spikes := 0, good := 0, badOpen := 0, badShort := 0, stale := none }) ∧
  ((∃ p, changed p) → (∀ q, hasAny (t.sitePort q).details Detail.probeState.mask = true) ∧ ∀ l, reevaluated l) ∧
  ((∀ p, ¬ changed p) → ∀ l, (mapChanged l → reevaluated l) ∧ (¬ mapChanged l → t.laneTemp l = s.laneTemp l))

/-- The blocks told of a commit, image apart: at a protected difference every builder takes the rise, and a lane that a difference belongs
to has an empty window, no proposal and at most a pending RESET, and a run on it ends ABORTED; what no difference reaches is as before, and
a vehicle that the rise seals is neither admitted to a window nor a candidate (R68, R103, R129, R139, R180). -/
def BlocksRetold (old new : Settings) (s t : State) : Prop :=
  let affected (l : Lane) : Prop := laneAffected old new l = true
  let on (cfg : Settings) (c : Channel) : Bool := (getCh cfg.channel c).enabled
  (∀ l, (protectedDiffers old new = true → RiseTaken (affected l) s t l) ∧
    (protectedDiffers old new = false → t.builder l = s.builder l)) ∧
  (∀ c, ConditionerRetold (old.lane.get c.lane).fir (new.lane.get c.lane).fir (getCh old.channel c) (getCh new.channel c)
    (s.conditioner c) (t.conditioner c)) ∧
  (∀ l, t.former l = { s.former l with miss := (t.former l).miss }) ∧
  (∀ c, (t.former c.lane).miss.get c.row c.side =
    if on old c = true ∧ on new c = false then 0 else (s.former c.lane).miss.get c.row c.side) ∧
  MonitorRetold old new s t ∧
  (∀ l, (affected l → t.tracker l = { s.tracker l with
      window := [], proposal := none, app := (s.tracker l).app.filter fun a => a.kind == .reset }) ∧
    (¬ affected l → t.tracker l = s.tracker l)) ∧
  ((∃ l, affected l ∧ s.runActive l = true) → t.rru = { s.rru with
    state := .idle, pass := none, pendTimer := none, armed := none, result := .aborted }) ∧
  ((∀ l, affected l → s.runActive l = false) → t.rru = s.rru)

/-- A port that is not answering, told of its line rate: in LISTEN a changed rate is taken at once and the idle count restarts; in any
other state the rate in hand stays (R164). -/
def RateRetold (rate : LineRate) (a b : SitePort) : Prop :=
  b.rate = (if a.state = .listen then rate else a.rate) ∧ b.state = a.state ∧ b.rx = a.rx ∧
    (a.state = .listen → a.rate ≠ rate → b.idle = 0 ∧ b.bitPhase = 0) ∧
    (a.state ≠ .listen ∨ a.rate = rate → b.idle = a.idle ∧ b.bitPhase = a.bitPhase)

/-! ### Store and arbiter -/

/-- The level conditions of a port as the store stands: NEW_RECORD for an unread record its filter matches, LAG1 and LAG2 from 24,576
and 28,672 unread bytes (R147). -/
def LevelsHold (st : RecordStore) (p : Port) (q : SitePort) : Prop :=
  let unread := st.records.filter fun r => decide (st.cursor.get p ≤ r.number)
  (hasAny q.cond Condition.newRecord.mask = true ↔ ∃ r ∈ unread, (st.filter.get p).accepts r = true) ∧
    (hasAny q.cond Condition.lag1.mask = true ↔ 24576 ≤ recordBytes unread) ∧
    (hasAny q.cond Condition.lag2.mask = true ↔ 28672 ≤ recordBytes unread)

/-- A member of level 1 waits (R153, R154). -/
def MemberWaits (s : State) : Member → Prop
  | .recordCommit => s.rst.queue ≠ []
  | .settingsEngine => ∃ n m, s.sst.prog = .ready n m
  | .portGroup => ∃ p, (s.sitePort p).waits = true

/-- How many members come before one in the cyclic order after the last served (R154). -/
def Member.turn (last : Member) (m : Member) : Nat :=
  let number : Member → Nat
    | .recordCommit => 0
    | .settingsEngine => 1
    | .portGroup => 2
  (number m + 2 - number last) % 3

/-- How many ports come before one: after the last served in ROTATING, from port A in FIXED (R155). -/
def Port.turn (mode : ArbiterMode) (last p : Port) : Nat :=
  match mode with
  | .rotating => (p.number + 2 - last.number) % 3
  | .fixed => p.number

/-- The member that the free engine's next grant goes to: waiting, with no waiting member before it (R153, R154). -/
def NextMember (s : State) (m : Member) : Prop :=
  s.sea.engine = .free ∧ MemberWaits s m ∧ ∀ k, MemberWaits s k → Member.turn s.sea.last1 m ≤ Member.turn s.sea.last1 k

/-- The port that the port group's next grant goes to: waiting, with no waiting port before it (R155). -/
def NextPort (s : State) (p : Port) : Prop :=
  (s.sitePort p).waits = true ∧
    ∀ q, (s.sitePort q).waits = true → Port.turn s.site.arbiterMode s.sea.last2 p ≤ Port.turn s.site.arbiterMode s.sea.last2 q

/-! ### Setting values -/

/-- A number in 4 signed bytes lies in a range (R186). -/
def NumIn (lo hi : Int) (v : List Byte) : Prop := lo ≤ fieldInt v 0 4 ∧ fieldInt v 0 4 ≤ hi

/-- An enumerated value in one byte is one of n (R186, log 17). -/
def CodeIn (n : Nat) (v : List Byte) : Prop := field v 0 1 < n

/-- A curve's point count and every point's x and y lie in their ranges (R71, R86). -/
def CurveIn (most : Nat) (xlo xhi ylo yhi : Int) (v : List Byte) : Prop :=
  1 ≤ field v 0 1 ∧ field v 0 1 ≤ most ∧ ∀ k, k < field v 0 1 →
    xlo ≤ fieldInt v (1 + 6 * k) 4 ∧ fieldInt v (1 + 6 * k) 4 ≤ xhi ∧ ylo ≤ fieldInt v (5 + 6 * k) 2 ∧ fieldInt v (5 + 6 * k) 2 ≤ yhi

/-- The five limits at an offset of a value lie in their ranges (R108). -/
def LimitsIn (v : List Byte) (offset : Nat) : Prop :=
  (∀ k, k < 4 → field v (offset + 2 * k) 2 ≤ 32767) ∧ field v (offset + 8) 4 ≤ 250000

/-- A class rule's fields lie in their ranges: class, axle count, at most 11 windows each with its minimum not above its maximum, and
the gross bounds, absent ones apart, in range and in order (R108, R186). -/
def ClassRuleIn (v : List Byte) : Prop :=
  let n := field v 2 1
  let lo := field v (3 + 4 * n) 4
  let hi := field v (7 + 4 * n) 4
  1 ≤ field v 0 1 ∧ field v 0 1 ≤ 31 ∧ 2 ≤ field v 1 1 ∧ field v 1 1 ≤ 12 ∧ n ≤ 11 ∧
    (∀ k, k < n → field v (3 + 4 * k) 2 ≤ field v (5 + 4 * k) 2) ∧
    (lo ≠ 4294967295 → lo ≤ 250000) ∧ (hi ≠ 4294967295 → hi ≤ 250000) ∧
    (lo ≠ 4294967295 → hi ≠ 4294967295 → lo ≤ hi) ∧ LimitsIn v (11 + 4 * n)

/-- The value of an item lies in the range its table gives (R20, R39, R71, R86, R108, R118, R121, R155, R173). -/
def InRange (v : List Byte) : Item → Prop
  | .bufferOffset => NumIn 2 14 v
  | .linkMode | .enable _ | .tempCorrection _ | .autoDrift | .arbiterMode | .groupEnable _ | .broadcast _ => CodeIn 2 v
  | .fir _ | .privileges _ => True
  | .tOn _ => NumIn 16 16383 v
  | .tOff _ => NumIn 8 16383 v
  | .hold _ => NumIn 1 15 v
  | .gain _ => NumIn 0 16777215 v
  | .rowSpacing _ => NumIn 500 5000 v
  | .speedCurve _ _ => CurveIn 8 56 6945 2048 8191 v
  | .tempCurve _ => CurveIn 9 (-400) 800 2048 8191 v
  | .coincidence => NumIn 1 64 v
  | .rowAgreement => NumIn 5 50 v
  | .probeCurve _ => CurveIn 16 0 65535 (-1000) 1500 v
  | .openT _ => NumIn 0 32767 v
  | .shortT _ => NumIn 32768 65535 v
  | .probeMap _ => field v 0 1 ≤ 3 ∧ field v 1 1 ≤ 3
  | .spikeLimit => NumIn 5 100 v
  | .loopLine _ => NumIn 1 6 v
  | .closeDelay => NumIn 50 5000 v
  | .splitSpacing => NumIn 600 2000 v
  | .groupSpacing => NumIn 100 300 v
  | .tolerance => NumIn 0 30 v
  | .classRuleCount => NumIn 0 32 v
  | .classRule _ => ClassRuleIn v
  | .unclassified => LimitsIn v 0
  | .triggerMode _ => CodeIn 4 v
  | .triggerWidth _ => NumIn 1 255 v
  | .driftMode _ => CodeIn 3 v
  | .refClass _ => NumIn 1 31 v
  | .refGrossMin _ => NumIn 0 250000 v
  | .driftTarget _ => NumIn 2000 12000 v
  | .unitAddress => NumIn 1 62 v
  | .groupAddress | .groupMask => NumIn 0 63 v
  | .lineRate _ => CodeIn 5 v

/-! ### Reply payloads -/

/-- A payload carries a field at an offset (section 10.5). -/
def Carries (answer : List Byte) (offset : Nat) (value : List Byte) : Prop := (answer.drop offset).take value.length = value

/-- A payload carries an unsigned number in k bytes at an offset, most significant first (section 10.5). -/
def CarriesNat (answer : List Byte) (offset k n : Nat) : Prop := Carries answer offset (natBytes k n)

/-- A payload carries a truth value at an offset, 1 or 0 (section 10.5; the codes are log 39). -/
def CarriesBool (answer : List Byte) (offset : Nat) (b : Bool) : Prop := CarriesNat answer offset 1 (if b then 1 else 0)

/-- A record stands in a payload at an offset, in the layout of section 10.3 (R185). -/
def RecordAt (answer : List Byte) (offset : Nat) (r : Record) : Prop :=
  let nat (k w n : Nat) : Prop := CarriesNat answer (offset + k) w n
  nat 0 2 (40 + 8 * r.axles.length) ∧ nat 2 4 r.number ∧ nat 6 1 r.lane.number ∧ nat 7 1 r.cls ∧ nat 8 1 (r.ruleIndex.getD 0) ∧
  nat 9 1 r.verdict.code ∧ nat 10 3 r.flags.toNat ∧ nat 13 1 ((r.overload.map fun o => o.kind.code).getD 0) ∧
  nat 14 1 ((r.overload.map fun o => o.index).getD 0) ∧ nat 15 2 ((r.overload.map fun o => o.excess).getD 0) ∧
  nat 17 4 r.time.sec.toNat ∧ nat 21 4 r.time.us ∧ nat 25 1 r.quality.code ∧ nat 26 4 r.generation.toNat ∧
  nat 30 2 (r.speed.getD 0) ∧ nat 32 4 r.gross ∧ nat 36 1 r.axles.length ∧ Carries answer (offset + 37) (intBytes 2 r.temp) ∧
  nat 39 1 r.source.code ∧
  ∀ k a, r.axles[k]? = some a →
    nat (40 + 8 * k) 2 a.left ∧ nat (42 + 8 * k) 2 a.right ∧ nat (44 + 8 * k) 2 a.spacing ∧ nat (46 + 8 * k) 1 a.group ∧
    nat (47 + 8 * k) 1 a.flags.toNat

/-! ### Invariants -/

/-- The site clock: microseconds below a million, the trim and the counts in their ranges (R1, R3, R4, R5, R6, R7). -/
def ClockOk (k : Clock) : Prop :=
  k.time.us < 1000000 ∧ -200000 ≤ k.trim ∧ k.trim ≤ 200000 ∧ k.unmarked ≤ 65535 ∧
    (∀ m ∈ k.mark, m.strobes ≤ markStrobes) ∧ (∀ n ∈ k.holdover, n ≤ holdoverStrobes) ∧
    -2147483648 ≤ k.lastError ∧ k.lastError ≤ 2147483647

/-- A drift factor in its range (R126). -/
def FactorOk (d : Nat) : Prop := 3686 ≤ d ∧ d ≤ 4506

/-- The three drift factors of an image in their range (R126). -/
def ImageOk (m : Image) : Prop := ∀ l, FactorOk (m.drift.get l)

/-- The snapshot of a programming run in range. -/
def ProgrammingOk : Programming → Prop
  | .idle => True
  | .ready n m => 1 ≤ n ∧ n ≤ programmingSteps ∧ ImageOk m
  | .writing n m => 1 ≤ n ∧ n ≤ programmingSteps ∧ ImageOk m

/-- A drift tracker: fewer than 64 entries, what it proposes and what is pending within the range of a factor, a reset being
4,096 (R122, R123, R126). -/
def TrackerOk (t : DriftTracker) : Prop :=
  t.window.length < 64 ∧ t.evals ≤ 65535 ∧ (∀ v ∈ t.proposal, FactorOk v) ∧
    ∀ a ∈ t.app, FactorOk a.value ∧ (a.kind = .reset → a.value = 4096)

/-- The drift factors and everything that may become one stay in range, and while programming runs the stored image does not
agree (R126, R181). -/
def CalibrationOk (s : State) : Prop :=
  ImageOk s.sst.active ∧ ImageOk s.sst.nv ∧ ProgrammingOk s.sst.prog ∧
    (s.sst.prog ≠ .idle → s.sst.nvGood = false) ∧ ∀ l, TrackerOk (s.tracker l)

/-- The reference run unit: a run is active only while its owner holds the token (R139), a pass is pending exactly in PENDING,
and at most 16 passes are held. -/
def RunOk (s : State) : Prop :=
  (s.rru.state ≠ .idle → ∃ e, s.sst.edit = some e ∧ s.rru.owner = some e.holder) ∧
    (s.rru.state = .pending ↔ s.rru.pass.isSome) ∧ s.rru.passes.length ≤ 16 ∧
    ((s.rru.state = .armed ∨ s.rru.state = .pending) → s.rru.passes.length < 16)

/-- A vehicle context: at most 12 axles, none in IDLE (R94, R100). -/
def ContextOk (c : Context) : Prop := c.axles.length ≤ 12 ∧ (c.state = .idle → c.axles = [])

/-- The numbers of a list of records strictly increase and lie from `lo` up to, and not including, `hi`. -/
def NumbersBetween (lo hi : Nat) (rs : List Record) : Prop :=
  (rs.map Record.number).Pairwise (· < ·) ∧ ∀ r ∈ rs, lo ≤ r.number ∧ r.number < hi

/-- The record store with the vehicles on their way to it: every lane's context, the queue, the list, the numbers and the cursors
(R100, R115, R141, R142, R143, R145). -/
def StoreOk (s : State) : Prop :=
  (∀ l, ContextOk (s.ctx l)) ∧
  (∀ r ∈ s.rst.queue, r.axles.length ≤ 12) ∧ (∀ r ∈ s.rst.records, r.axles.length ≤ 12) ∧ s.rst.queue.length ≤ 4 ∧ s.rst.dropped ≤ 65535 ∧
  recordBytes s.rst.records ≤ storeBytes ∧
  NumbersBetween 1 s.rst.next s.rst.records ∧ NumbersBetween s.rst.next s.vehicleNumber s.rst.queue ∧
  1 ≤ s.rst.next ∧ s.rst.next ≤ s.vehicleNumber ∧ s.vehicleNumber ≤ numberLimit ∧
  ∀ p, s.rst.oldest.getD s.rst.next ≤ s.rst.cursor.get p ∧ s.rst.cursor.get p ≤ s.rst.next

/-- The axle formers: at most 8 upstream entries, miss counts at most 32 (R54, R68). -/
def FormersOk (s : State) : Prop :=
  ∀ l, (s.former l).upstream.length ≤ upstreamCapacity ∧ ∀ r sd, (s.former l).miss.get r sd ≤ silentCount

/-- A CLOSED lane assembles no vehicle (R94). -/
def LanesOk (s : State) : Prop := ∀ l, (s.builder l).mode = .closed → (s.ctx l).state = .idle

/-- The coincidence windows of an image lie within 64 scans (R71). -/
def WindowsIn (cfg : Settings) : Prop := cfg.site.coincidence ≤ 64

/-- Every image that is in use or may come into use has its coincidence windows in range (R71, R177, R180). -/
def WindowsOk (s : State) : Prop :=
  WindowsIn s.settings ∧ WindowsIn s.sst.nv.settings ∧ (∀ e ∈ s.sst.edit, WindowsIn e.working) ∧
    match s.sst.prog with
    | .idle => True
    | .ready _ m => WindowsIn m.settings
    | .writing _ m => WindowsIn m.settings

end Sys2Proof.Machine
end

