-- ==== Sys2Proof/WellFormed.lean ====
section
/-! DEFINITION. Well-formed commands: those whose operands are what their row of the table says they are. A frame's payload has
at most 1,024 bytes (R159), a request's first byte carries no reply mark (R183), and the rows for frames that go wrong carry
bytes that go wrong that way (R161, R162). -/

namespace Sys2Proof

open Machine

/-- A request frame: reply mark clear, payload of at most 1,024 bytes (R159, R183). -/
def requestOk (dest : Byte) (payload : List Byte) : Bool := !dest.getLsbD 7 && decide (payload.length ≤ 1024)

/-- The frame of a command that is a request of the table, with its code (chapter 10.2); none for the other rows. -/
def Instr.frame? : Instr → Option (Byte × Byte × List Byte)
  | .identify _ dest payload => some (dest, 1, payload)
  | .readStatus _ dest payload => some (dest, 2, payload)
  | .clearAttention _ dest payload => some (dest, 3, payload)
  | .setAttentionEnables _ dest payload => some (dest, 4, payload)
  | .readTemperatures _ dest payload => some (dest, 5, payload)
  | .readRecords _ dest payload => some (dest, 6, payload)
  | .release _ dest payload => some (dest, 7, payload)
  | .seek _ dest payload => some (dest, 8, payload)
  | .setFilter _ dest payload => some (dest, 9, payload)
  | .timeMark _ dest payload => some (dest, 10, payload)
  | .timeSet _ dest payload => some (dest, 11, payload)
  | .laneMode _ dest payload => some (dest, 12, payload)
  | .claimEdit _ dest payload => some (dest, 13, payload)
  | .releaseEdit _ dest payload => some (dest, 14, payload)
  | .readSetting _ dest payload => some (dest, 15, payload)
  | .writeSetting _ dest payload => some (dest, 16, payload)
  | .commit _ dest payload => some (dest, 17, payload)
  | .discard _ dest payload => some (dest, 18, payload)
  | .startRun _ dest payload => some (dest, 19, payload)
  | .acceptPass _ dest payload => some (dest, 20, payload)
  | .rejectPass _ dest payload => some (dest, 21, payload)
  | .readRun _ dest payload => some (dest, 22, payload)
  | .applyRun _ dest payload => some (dest, 23, payload)
  | .endRun _ dest payload => some (dest, 24, payload)
  | .readDrift _ dest payload => some (dest, 25, payload)
  | .driftApply _ dest payload _ => some (dest, 26, payload)
  | .driftReset _ dest payload _ => some (dest, 27, payload)
  | .restart _ dest payload => some (dest, 28, payload)
  | .unknownRequest _ dest code payload => some (dest, code, payload)
  | .startUp _ | .siteTimeAdvance | .scanStrobe _ | .holdoverTimerExpiry | .timeMarkExpiry | .timePulse
  | .linkArrival _ _ | .linkSilence | .acquireComplete _ | .recoverComplete _ | .pulseEnd _ | .pulseAbandoned _
  | .halfWindowEnd _ | .upstreamExpiry _ | .loopChange _ | .loopFaultEntry _ | .closeTimerExpiry _ | .triggerPulseEnd _
  | .probeReading _ | .probeStale _ | .laneTempLost _ | .driftApplicationTaken _ | .runPendingTimeout | .runArmedTimeout
  | .recordCommit | .portGrantExecute _ | .frameCrcError _ _ | .otherUnitReply _ _ _ _ | .frameNotAddressed _ _ _ _
  | .framingError _ _ _ | .frameGapTimeout _ _ | .overrun _ _ | .portArmed _ | .replyStart _ | .replySent _
  | .editTokenExpiry | .programmingStep | .programmingWriteDone _ | .listenByteNotArmed _ _ => none

/-- Whether a command's operands are what its row says. -/
def Instr.wf : Instr → Bool
  | .unknownRequest _ dest code payload => requestOk dest payload && !knownCode code
  | .frameCrcError _ frame => wholeFrame frame && !crcAgrees frame
  | .otherUnitReply _ first _ payload => first.getLsbD 7 && decide (payload.length ≤ 1024)
  | .frameNotAddressed _ dest _ payload => requestOk dest payload
  | .framingError _ bytes lowStop => !bytes.isEmpty && (lowStop || (bytes.length == 4 && decide (1024 < frameLength bytes)))
  | .frameGapTimeout _ bytes => unfinished bytes
  | .timeMark _ dest payload | .timeSet _ dest payload | .laneMode _ dest payload | .readTemperatures _ dest payload
  | .driftApply _ dest payload _ | .driftReset _ dest payload _ | .readDrift _ dest payload | .startRun _ dest payload
  | .acceptPass _ dest payload | .rejectPass _ dest payload | .readRun _ dest payload | .applyRun _ dest payload
  | .endRun _ dest payload | .readRecords _ dest payload | .release _ dest payload | .setFilter _ dest payload
  | .seek _ dest payload | .readStatus _ dest payload | .identify _ dest payload | .clearAttention _ dest payload
  | .setAttentionEnables _ dest payload | .restart _ dest payload | .claimEdit _ dest payload | .releaseEdit _ dest payload
  | .writeSetting _ dest payload | .discard _ dest payload | .readSetting _ dest payload | .commit _ dest payload =>
    requestOk dest payload
  | .startUp _ | .siteTimeAdvance | .scanStrobe _ | .holdoverTimerExpiry | .timeMarkExpiry | .timePulse
  | .linkArrival _ _ | .linkSilence | .acquireComplete _ | .recoverComplete _ | .pulseEnd _ | .pulseAbandoned _
  | .halfWindowEnd _ | .upstreamExpiry _ | .loopChange _ | .loopFaultEntry _ | .closeTimerExpiry _ | .triggerPulseEnd _
  | .probeReading _ | .probeStale _ | .laneTempLost _ | .driftApplicationTaken _ | .runPendingTimeout | .runArmedTimeout
  | .recordCommit | .portGrantExecute _ | .overrun _ _ | .portArmed _ | .replyStart _ | .replySent _
  | .editTokenExpiry | .programmingStep | .programmingWriteDone _ | .listenByteNotArmed _ _ => true

end Sys2Proof
end

