-- ==== Sys2Proof/Certificates/Slice0/Obligations.lean ====
section
/-! DEFINITION. The statements for the provers. Each says what a command does, or what every step keeps; the rules it comes
from are cited in OBLIGATIONS.json and in its docstring. -/

open Sys2Proof Sys2Proof.Machine

/-! ### The step -/

/-- A step takes the command at the front of the queue and is that command's meaning with the rest of the queue (log 1). -/
def Obligations.StepRunsFrontCommand : Prop :=
  ∀ (i : Instr) (rest : List Instr) (s : State), step (s.withPending (i :: rest)) = exec i (s.withPending rest)

/-- With nothing waiting, a step raises a command that is due, if there is one; the start of a port's reply is due exactly once 4 bit
times have passed since the end of its request frame. With nothing due, it raises the command of the arbiter's next grant, if there is
one; the port group's carries the calibration-enable line as it stands. With neither, a step is one period of the 20 MHz reference: each
accumulator takes its increment word modulo 2^32, and at each port the line rate is added to the phase, where 20,000,000 makes a bit time,
and, while the port holds a request, to that request's age, up to 4 bit times. A bit time lets the sent bits of a reply being driven go
on, up to 10 a byte, and the idle count up to 19, from which PORT_ARMED takes it on; the last bit time of a byte the port sends restarts
the idle count at 0. SITE_TIME_ADVANCE and SCAN_STROBE are raised exactly at their carries, PORT_ARMED exactly at the end of the 20th bit
time since the last byte, and after it REPLY_SENT exactly at the end of the last bit of a reply, and nothing else (R1, R2, R153 to R155,
R160, R163, R164; that the empty queue lets the reference run, what it raises, and the figures bit times are kept in, are the model's
choice, log 3; that a grant is decided at its command is logs 1 and 22; the level it carries is log 5). -/
def Obligations.EmptyQueueStepsAccumulators : Prop :=
  (∀ s : State, s.pending = [] → dueCommands s ≠ [] → ∃ i ∈ dueCommands s, step s = .next (s.withPending [i])) ∧
  (∀ (s : State) (p : Port), .replyStart p ∈ dueCommands s ↔
    (s.sitePort p).state = .reply ∧ (s.sitePort p).driving = false ∧ 4 * 20000000 ≤ (s.sitePort p).frameAge) ∧
  (∀ s : State, s.pending = [] → dueCommands s = [] →
    (NextMember s .recordCommit → step s = .next (s.withPending [.recordCommit])) ∧
    (NextMember s .settingsEngine → step s = .next (s.withPending [.programmingStep])) ∧
    (NextMember s .portGroup → step s = .next (s.withPending [.portGrantExecute s.lines.key]))) ∧
  (∀ s : State, s.pending = [] → dueCommands s = [] → (∀ m, ¬ NextMember s m) →
    let bit (p : Port) : Prop := 20000000 ≤ (s.sitePort p).bitPhase + (s.sitePort p).rate.bitsPerSecond
    let bits (p : Port) : Nat := 10 * (s.sitePort p).reply.length
    let byte (p : Port) : Prop := (s.sitePort p).driving = true ∧ min (bits p) ((s.sitePort p).sentBits + 1) % 10 = 0
    ∃ t, step s = .next t ∧
      t.sck = { s.sck with usAcc := s.sck.usAcc + usWord s.sck.trim, scanAcc := s.sck.scanAcc + scanWord s.sck.trim } ∧
      (.siteTimeAdvance ∈ t.pending ↔ 2 ^ 32 ≤ s.sck.usAcc.toNat + (usWord s.sck.trim).toNat) ∧
      (.scanStrobe s.lines.loops ∈ t.pending ↔ 2 ^ 32 ≤ s.sck.scanAcc.toNat + (scanWord s.sck.trim).toNat) ∧
      (∀ p, .portArmed p ∈ t.pending ↔ bit p ∧ (s.sitePort p).idle = 19 ∧ ¬ byte p) ∧
      (∀ p, .replySent p ∈ t.pending ↔ (s.sitePort p).driving = true ∧ bits p ≤ (s.sitePort p).sentBits + 1 ∧ bit p) ∧
      (∀ i ∈ t.pending, i = .siteTimeAdvance ∨ i = .scanStrobe s.lines.loops ∨ ∃ p, i = .portArmed p ∨ i = .replySent p) ∧
      (∃ first last, t.pending = first ++ last ∧ (∀ p, .replySent p ∉ first) ∧ ∀ i ∈ last, ∃ p, i = .replySent p) ∧
      (∀ p,
        let q := s.sitePort p
        let rate := q.rate.bitsPerSecond
        let held := q.state = .execute ∨ (q.state = .reply ∧ q.driving = false)
        (t.sitePort p).bitPhase = (q.bitPhase + rate) - (if 20000000 ≤ q.bitPhase + rate then 20000000 else 0) ∧
        (held → (t.sitePort p).frameAge = min (4 * 20000000) (q.frameAge + rate)) ∧
        (¬ held → (t.sitePort p).frameAge = q.frameAge) ∧
        (bit p → (t.sitePort p).sentBits = if q.driving then min (bits p) (q.sentBits + 1) else q.sentBits) ∧
        (bit p → byte p → (t.sitePort p).idle = 0) ∧
        (bit p → ¬ byte p → (t.sitePort p).idle = if q.idle < 19 then q.idle + 1 else q.idle) ∧
        (¬ bit p → (t.sitePort p).sentBits = q.sentBits ∧ (t.sitePort p).idle = q.idle) ∧
        t.sitePort p = { q with
          bitPhase := (t.sitePort p).bitPhase, frameAge := (t.sitePort p).frameAge
          sentBits := (t.sitePort p).sentBits, idle := (t.sitePort p).idle }) ∧
      AgreeOutside [.pending, .sck, .port] s t)

/-! ### Start-up -/

/-- A start-up that finds a stored image that does not agree: factory defaults in use, the stored image left as it is, all channels
enabled, lanes CLOSED, RESTARTED and SITE_ALARM with "settings invalid" latched, the attention lines asserted for RESTARTED, and every
block at its start-up value, those the manual does not give being log 23 (R22, R42, R73, R90, R120, R131, R140, R157, R174, R175). The
queue, the levels of the pins and the model's draw counter are kept (log 25). -/
def Obligations.StartUpLoadsDefaults : Prop :=
  ∀ (s : State) (cause : StartCause), s.sst.nvGood = false →
    ∃ t, exec (.startUp cause) s = .next t ∧
      t.sst = { s.sst with
        active := .factory, edit := none, prog := .idle, storeFault := false, settingsState := .defaults, riseLanes := .all false } ∧
      t.startCause = cause ∧ StartedBlocks t (fun _ => true) .closed (fun _ => .r115200) true ∧
      (∀ p, (t.sitePort p).cond = 0x101 ∧ (t.sitePort p).details = 0x100 ∧ (t.sitePort p).enables = 0x001 ∧
        (t.sitePort p).attention = true) ∧
      AgreeOutside startUpChanges s t

/-- A start-up that finds a stored image that agrees loads it: settings, drift factors and generation as last programmed, lanes OPEN,
channels as the image enables them, ports at its line rates with RESTARTED latched and their attention lines asserted, and every other
block at its start-up value, those the manual does not give being log 23 (R22, R42, R73, R90, R120, R131, R140, R157, R174, R175). The
stored image, the queue, the levels of the pins and the model's draw counter are kept (log 25). -/
def Obligations.StartUpLoadsStoredImage : Prop :=
  ∀ (s : State) (cause : StartCause), s.sst.nvGood = true →
    ∃ t, exec (.startUp cause) s = .next t ∧
      t.sst = { s.sst with
        active := s.sst.nv, edit := none, prog := .idle, storeFault := false, settingsState := .valid, riseLanes := .all false } ∧
      t.startCause = cause ∧
      StartedBlocks t (fun c => (getCh s.sst.nv.settings.channel c).enabled) .open
        (fun p => (s.sst.nv.settings.port.get p).rate) false ∧
      (∀ p, (t.sitePort p).cond = 0x001 ∧ (t.sitePort p).details = 0 ∧ (t.sitePort p).enables = 0x001 ∧
        (t.sitePort p).attention = true) ∧
      AgreeOutside startUpChanges s t

/-- At reset every invariant stated below holds (the stored image of a part never programmed does not agree: log 6). -/
def Obligations.InvariantsHoldAtReset : Prop :=
  ClockOk State.reset.sck ∧ CalibrationOk .reset ∧ RunOk .reset ∧ StoreOk .reset ∧ FormersOk .reset ∧
    LanesOk .reset ∧ SlotsOk .reset ∧ ListsOk .reset ∧ WindowsOk .reset

/-! ### Site clock -/

/-- SITE_TIME_ADVANCE adds one microsecond, carrying into a seconds count that wraps, in every time state (R1). The holdover timer's
80,000th strobe takes LOCKED to HOLDOVER and nothing else (R4); the strobe that completes a mark's 12,000 discards it and nothing else
(R5). -/
def Obligations.ClockAdvancesAndExpires : Prop :=
  (∀ s : State, ∃ t, exec .siteTimeAdvance s = .next t ∧
    t.sck = { s.sck with time :=
      if s.sck.time.us + 1 < 1000000 then ⟨s.sck.time.sec, s.sck.time.us + 1⟩ else ⟨s.sck.time.sec + 1, 0⟩ } ∧
    AgreeOutside [.sck] s t) ∧
  (∀ s : State, s.sck.timeState = .locked → s.sck.holdover = some 80000 →
    ∃ t, exec .holdoverTimerExpiry s = .next t ∧ t.sck = { s.sck with timeState := .holdover } ∧ AgreeOutside [.sck] s t) ∧
  (∀ (s : State) (m : TimeMark), s.sck.mark = some m → m.strobes = 12000 →
    ∃ t, exec .timeMarkExpiry s = .next t ∧ t.sck = { s.sck with mark := none } ∧ AgreeOutside [.sck] s t)

/-- A pulse that finds no mark only counts, and the count stays at 65,535 (R6). -/
def Obligations.UnmarkedPulseOnlyCounts : Prop :=
  ∀ s : State, s.sck.mark = none →
    ∃ t, exec .timePulse s = .next t ∧ t.sck = { s.sck with unmarked := min 65535 (s.sck.unmarked + 1) } ∧
      AgreeOutside [.sck] s t

/-- A marked pulse sets site time to the mark and 0 microseconds, locks, restarts the holdover timer, consumes the mark and keeps
the error; in UNSET, SET or with an error above 1,000 µs it is stepped and latches "time stepped" at every port, otherwise it is
slewed: the trim turns by −250 × e within its range and no detail is latched (R3, R7, R8). -/
def Obligations.MarkedPulseDisciplinesTime : Prop :=
  ∀ (s : State) (m : TimeMark), s.sck.mark = some m →
    let e := (s.sck.time.sec - m.sec).toInt * 1000000 + s.sck.time.us
    let stepped := s.sck.timeState = .unset ∨ s.sck.timeState = .set ∨ 1000 < e.natAbs
    ∃ t, exec .timePulse s = .next t ∧
      t.sck = { s.sck with
        time := ⟨m.sec, 0⟩, timeState := .locked, holdover := some 0, mark := none
        lastError := max (-2147483648) (min 2147483647 e), trim := t.sck.trim } ∧
      (stepped → t.sck.trim = s.sck.trim ∧ ∀ p, t.sitePort p = (s.sitePort p).latchDetail .timeStepped) ∧
      (¬ stepped → t.sck.trim = max (-200000) (min 200000 (s.sck.trim - 250 * e)) ∧ t.port = s.port) ∧
      AgreeOutside [.sck, .port] s t

/-- A strobe carries the current scan number and the site time, and the number then goes up by one, wrapping (R2, R10). The pending mark's
count and, in LOCKED, the holdover timer's go up by one, and every former's expiry limit is worked out from the row spacing in use (R4, R5,
R55, R71). The loop levels it brings are kept (log 5). What the strobe before had made due is taken first, an expired mark and holdover
timer among it (log 2). Site time, the trim, the error, the unmarked count, the accumulators (log 24), the arbiter and the queue are as
before. With nothing due, every count of strobes advances and stays at its last value: the silence count to 4, not in DOWN; each lane's
pending count of samples that differ from its debounced loop to 4, back to 0 at one that does not, its present time count while the loop is
present to 960,000, its close timer and its trigger pulse to their limits; the stale timers to 24,000; the held time of a HELD lane, whose
last strobe makes the lane's loss due (log 2); the run's two timers to 14,400,000 and 2,400,000; and the lease to 960,000 (R14, R80, R82,
R91, R92, R96, R116, R135, R136, R176). Nothing else then changes but what the delivery of a scan does, which is the next statement's. -/
def Obligations.StrobeNumbersScans : Prop :=
  ∀ (s : State) (loops : BitVec 6), ∃ t, exec (.scanStrobe loops) s = .next t ∧
    t.sck = { s.sck with
      present := s.sck.scan, scan := s.sck.scan + 1, strobeTime := s.sck.time
      mark := (s.sck.mark.filter fun m => decide (m.strobes < 12000)).map fun m => ⟨m.sec, m.strobes + 1⟩
      timeState := if s.sck.timeState = .locked ∧ s.sck.holdover.any (fun n => decide (80000 ≤ n)) = true then .holdover
        else s.sck.timeState
      holdover := if s.sck.timeState = .locked then s.sck.holdover.map (fun n => if n < 80000 then n + 1 else n)
        else s.sck.holdover } ∧
    (∀ l, (t.former l).limit = ((s.laneSet l).rowSpacing * 12800 + 55) / 56) ∧
    t.lines = { s.lines with loops := loops } ∧ Agree s t .pending ∧ Agree s t .sea ∧ Agree s t .startCause ∧
    Agree s t .freeCount ∧
    (settle s = s →
      let upTo (most n : Nat) : Nat := min most (n + 1)
      let ticked (k : Timer) : Timer := { k with count := upTo k.limit k.count }
      t.slr.silence = (if s.slr.state = .down then s.slr.silence else upTo 4 s.slr.silence) ∧
      (∀ l,
        let b := s.builder l
        let a := s.laneTemp l
        t.builder l = { b with
          pend := if loops.getLsbD ((s.laneSet l).loopLine - 1) = b.present then 0 else upTo 4 b.pend
          presentCount := if b.present then upTo 960000 b.presentCount else b.presentCount
          ctx := { b.ctx with timer := b.ctx.timer.map ticked }
          pulse := b.pulse.map ticked } ∧
        (a.source ≠ .held ∨ 7200000 ≤ a.held → t.laneTemp l = a) ∧
        (a.source = .held → a.held + 1 < 7200000 → t.laneTemp l = { a with held := a.held + 1 }) ∧
        (a.source = .held → a.held + 1 = 7200000 → t.laneTemp l = { a with lostDue := true }) ∧
        t.former l = { s.former l with limit := (t.former l).limit }) ∧
      (∀ p, t.ptm.probe.get p = { s.ptm.probe.get p with
        stale := (s.ptm.probe.get p).stale.map (upTo 24000), sum := (t.ptm.probe.get p).sum, count := (t.ptm.probe.get p).count }) ∧
      t.rru = { s.rru with armed := s.rru.armed.map (upTo 14400000), pendTimer := s.rru.pendTimer.map (upTo 2400000) } ∧
      t.sst = { s.sst with edit := s.sst.edit.map fun e => { e with lease := upTo 960000 e.lease } } ∧
      AgreeOutside [.lines, .sck, .slr, .cc, .axf, .vb, .ptm, .rru, .port, .sst] s t)

/-! ### Scan link -/

/-- A strobe with nothing due. In DOWN and ALIGNING it reads and delivers nothing: the read position, the buffer and all else of the link
but its silence count, the conditioners, the conversions and the ports stay as they are. In RUNNING, a scan at the read position is
consumed and handed to every conditioner and the monitor, with SLIP exactly when a slip was pending; a fill entry is consumed and hands on
nothing; each change of the occupancy updates the margin latches. An empty buffer is a slip: it is counted and latched as "scan link", and
the scan delivered last, if there is one, is handed on again with SLIP (R15 to R18, R74). -/
def Obligations.StrobeDeliversScan : Prop :=
  (∀ (s : State) (loops : BitVec 6), settle s = s → s.slr.state ≠ .running →
    ∃ t, exec (.scanStrobe loops) s = .next t ∧ t.slr = { s.slr with silence := t.slr.silence } ∧ t.cc = s.cc ∧ t.port = s.port ∧
      t.ptm.slotRef = s.ptm.slotRef ∧ t.ptm.discards = s.ptm.discards ∧
      ∀ p, (t.ptm.probe.get p).sum = (s.ptm.probe.get p).sum ∧ (t.ptm.probe.get p).count = (s.ptm.probe.get p).count) ∧
  (∀ (s : State) (loops : BitVec 6), settle s = s → s.slr.state = .running →
    ∃ t, exec (.scanStrobe loops) s = .next t ∧
      (let handed (d : Scan) (slip : Bool) : Prop := ConversionTaken d slip s t ∧
         ∀ c, t.conditioner c = (s.conditioner c).scan (s.laneSet c.lane).fir (s.channelSet c) (getCh d.samples c).toInt
           (d.status.getLsbD c.index) slip s.sck.scan s.sck.time
       let quiet : Prop := t.cc = s.cc ∧ t.ptm.slotRef = s.ptm.slotRef ∧
         ∀ p, (t.ptm.probe.get p).sum = (s.ptm.probe.get p).sum ∧ (t.ptm.probe.get p).count = (s.ptm.probe.get p).count
       let consumed : Prop := t.slr.buf = s.slr.buf.set s.slr.rd .empty ∧ t.slr.rd = (s.slr.rd + 1) % 16 ∧
         t.slr.occ = s.slr.occ - 1 ∧ t.slr.slips = s.slr.slips ∧ MarginsLatched (s.slr.occ - 1) s t
       (∀ d, 0 < s.slr.occ → s.slr.buf[s.slr.rd]? = some (.scan d) →
         consumed ∧ handed d s.slr.slipPending ∧ t.slr.slipPending = false ∧ t.slr.lastScan = some d) ∧
       (0 < s.slr.occ → s.slr.buf[s.slr.rd]? = some .fill →
         consumed ∧ quiet ∧ t.slr.slipPending = s.slr.slipPending ∧ t.slr.lastScan = s.slr.lastScan) ∧
       (s.slr.occ = 0 →
         t.slr.buf = s.slr.buf ∧ t.slr.rd = s.slr.rd ∧ t.slr.occ = 0 ∧ t.slr.slipPending = false ∧
         t.slr.slips = min 65535 (s.slr.slips + 1) ∧ t.slr.lastScan = s.slr.lastScan ∧
         (∀ p, hasAny (t.sitePort p).details Detail.scanLink.mask = true) ∧
         (∀ d, s.slr.lastScan = some d → handed d true) ∧ (s.slr.lastScan = none → quiet))))

/-- A tagged word in wide mode in DOWN or ALIGNING, or the second of two tagged halves in narrow mode in ALIGNING, is the first marker:
RUNNING, the write position set to the read position plus the offset modulo 16, the entries between made fill entries, the occupancy
the offset with its margin latches, nothing pending, and the silence count restarted. A first tagged half waits for the second, and an
untagged arrival leaves the search at its beginning, both in ALIGNING (R11, R12, R14, R17). -/
def Obligations.MarkerStartsRunning : Prop :=
  ∀ (s : State) (v : Word16), s.slr.state ≠ .running →
    (let started (units : List Word16) : Prop :=
       ∃ t, exec (.linkArrival true v) s = .next t ∧
         t.slr.state = .running ∧ t.slr.rd = s.slr.rd ∧ t.slr.wr = (s.slr.rd + s.site.bufferOffset) % 16 ∧
         t.slr.occ = s.site.bufferOffset ∧ t.slr.slipPending = false ∧ t.slr.partialScan = units ∧ t.slr.silence = 0 ∧
         t.slr.slips = s.slr.slips ∧ t.slr.lastScan = none ∧ MarginsLatched s.site.bufferOffset s t ∧
         (s.slr.buf.length = 16 → s.slr.rd < 16 → s.site.bufferOffset ≤ 16 → ∀ i, i < 16 →
           t.slr.buf[i]? = if (i + 16 - s.slr.rd) % 16 < s.site.bufferOffset then some .fill else s.slr.buf[i]?) ∧
         AgreeOutside [.slr, .port] s t
     (s.site.linkMode = .wide → started [v]) ∧
     (s.site.linkMode = .narrow → s.slr.state = .aligning → s.slr.halfMarker = true → started [v, v]) ∧
     (s.site.linkMode = .narrow → (s.slr.state = .down ∨ s.slr.halfMarker = false) →
       ∃ t, exec (.linkArrival true v) s = .next t ∧
         t.slr = { s.slr with state := .aligning, halfMarker := true, silence := 0 } ∧ AgreeOutside [.slr] s t)) ∧
    (∃ t, exec (.linkArrival false v) s = .next t ∧ (s.site.linkMode = .narrow → t.slr.halfMarker = false) ∧
      t.slr = { s.slr with state := .aligning, silence := 0, halfMarker := t.slr.halfMarker } ∧ AgreeOutside [.slr] s t)

/-- In RUNNING an arrival of the right kind joins the scan being assembled: tagged at the marker's one word, or two halves, and untagged
after it (R13). The last one completes it, with the channels, the conversion and the status word in the order of their units, high half
first in narrow mode, where a half is the low 8 bits of its arrival (log 29): below occupancy 16 it is written at the write position,
which advances with the occupancy and its margin latches; at 16 it is discarded, a slip is pending, counted and latched as "scan link" at
every port (R11, R15, R17). -/
def Obligations.CompletedScanIsBuffered : Prop :=
  ∀ (s : State) (v : Word16), s.slr.state = .running →
    let wide := s.site.linkMode = .wide
    let n := s.slr.partialScan.length
    let units := s.slr.partialScan ++ [v]
    let word (k : Nat) : Nat :=
      if wide then (units.getD k 0).toNat
      else (units.getD (2 * k) 0).toNat % 256 * 256 + (units.getD (2 * k + 1) 0).toNat % 256
    (n < (if wide then 1 else 2) →
      ∃ t, exec (.linkArrival true v) s = .next t ∧ t.slr = { s.slr with partialScan := units, silence := 0 } ∧
        AgreeOutside [.slr] s t) ∧
    ((if wide then 1 else 2) ≤ n → n + 1 < (if wide then 15 else 30) →
      ∃ t, exec (.linkArrival false v) s = .next t ∧ t.slr = { s.slr with partialScan := units, silence := 0 } ∧
        AgreeOutside [.slr] s t) ∧
    (n + 1 = (if wide then 15 else 30) →
      ∃ t, exec (.linkArrival false v) s = .next t ∧ t.slr.partialScan = [] ∧ t.slr.silence = 0 ∧
        (s.slr.occ < 16 →
          (∃ d, t.slr.buf = s.slr.buf.set s.slr.wr (.scan d) ∧ (∀ c, (getCh d.samples c).toNat = word (c.index + 1)) ∧
            d.conversion.toNat = word 13 ∧ d.status.toNat = word 14) ∧
          t.slr.wr = (s.slr.wr + 1) % 16 ∧ t.slr.occ = s.slr.occ + 1 ∧ t.slr.slips = s.slr.slips ∧
          t.slr.slipPending = s.slr.slipPending ∧ MarginsLatched (s.slr.occ + 1) s t) ∧
        (¬ s.slr.occ < 16 →
          t.slr.buf = s.slr.buf ∧ t.slr.wr = s.slr.wr ∧ t.slr.occ = s.slr.occ ∧ t.slr.slipPending = true ∧
          t.slr.slips = min 65535 (s.slr.slips + 1) ∧ ∀ p, t.sitePort p = (s.sitePort p).latchDetail .scanLink) ∧
        AgreeOutside [.slr, .port] s t)

/-- The fourth strobe without an arrival takes the link DOWN, from ALIGNING with nothing else, from RUNNING with the buffer emptied and
the loss told along the whole data path. A framing error, an untagged arrival where the marker belongs or a tagged one after it, takes
RUNNING to ALIGNING with the same consequences, and a tagged word of wide mode is then at once the first marker. The loss flushes the
formers: the halves and U entries held become unpaired axles in the order of their instants, counted for channel health, and reach the
builder before the notice, which seals the lane's vehicle with LINK_LOSS and continues it (R13, R14, R19, R32, R67 to R70, R76, R98, R102,
R104; lanes in order, log 36; equal instants, and the last check of R98 after the notice, log 11; a due end of a pulse goes with it, log 37,
and a due reading, log 41; that a second loss drops a continuation that has no axle yet is log 13, since R104 does not speak of a second
disturbance). -/
def Obligations.LinkLossEmptiesDataPath : Prop :=
  (∀ s : State, s.slr.silence = 4 → s.slr.state ≠ .down →
    ∃ t, exec .linkSilence s = .next t ∧ t.slr.state = .down ∧ t.slr.rd = s.slr.rd ∧ t.slr.wr = s.slr.wr ∧
      t.slr.partialScan = [] ∧ t.slr.slips = s.slr.slips ∧
      (s.slr.state = .aligning → AgreeOutside [.slr] s t) ∧
      (s.slr.state = .running →
        t.slr.buf = List.replicate 16 .empty ∧ t.slr.occ = 0 ∧ t.slr.slipPending = false ∧
        DataPathEmptied s t ∧ AgreeOutside trafficChanges s t)) ∧
  (∀ (s : State) (tagged : Bool) (v : Word16), s.slr.state = .running →
    tagged ≠ decide (s.slr.partialScan.length < (if s.site.linkMode = .wide then 1 else 2)) →
    ∃ t, exec (.linkArrival tagged v) s = .next t ∧ t.slr.rd = s.slr.rd ∧ t.slr.silence = 0 ∧ t.slr.slips = s.slr.slips ∧
      (tagged = false ∨ s.site.linkMode = .narrow →
        t.slr.state = .aligning ∧ t.slr.buf = List.replicate 16 .empty ∧ t.slr.occ = 0 ∧ t.slr.partialScan = [] ∧
        t.slr.halfMarker = tagged) ∧
      (tagged = true → s.site.linkMode = .wide →
        t.slr.state = .running ∧ t.slr.occ = s.site.bufferOffset ∧ t.slr.partialScan = [v]) ∧
      DataPathEmptied s t ∧ AgreeOutside trafficChanges s t)

/-! ### Channel conditioners -/

/-- A delivered scan at a conditioner. In DISABLED nothing. Otherwise the sample is filtered over the history, which is primed with it
when empty, and joins it; the deviation is taken from the baseline before the scan. ACQUIRE seeds the baseline and then takes fast
steps, RECOVER fast steps, IDLE a slow step unless the deviation is above T_on, which starts a pulse; in PULSE and TAIL the baseline is
frozen, a span of 4,000 comes before all else, a deviation of at least T_off is a pulse scan with what was tentative merged first, and
the H-th scan below it ends the pulse (R23 to R31, R33, R43). That ACQUIRE and RECOVER complete, and a pulse ends or is abandoned, is
made due for the event's own command (log 2). -/
def Obligations.ConditionerTakesScan : Prop :=
  ∀ (c : Conditioner) (fir : Fir) (cfg : ChannelSettings) (x : Int) (overrange slip : Bool) (n : Word32) (time : SiteTime),
    let u := c.scan fir cfg x overrange slip n time
    let hist := if c.hist = [] then List.replicate 10 x else c.hist
    let past (j : Nat) : Int := hist.getD (j - 1) 0
    let raw := (fir.c0 * (x + past 10) + fir.c1 * (past 1 + past 9) + fir.c2 * (past 2 + past 8) + fir.c3 * (past 3 + past 7) +
      fir.c4 * (past 4 + past 6) + fir.c5 * past 5 + 2048) / 4096
    let y := max (-32768) (min 32767 raw)
    let d := y - c.b64 / 64
    let sat : Bool := decide (raw ≠ y) || overrange
    let fast := c.b64 + (64 * y - c.b64) / 8
    let c' := { c with hist := x :: hist.take 9, due := .none }
    let j := (n - c.startScan).toNat
    (c.state = .disabled → u = c) ∧
    (c.state = .acquire → u = { c' with
      b64 := if c.acq = 0 then 64 * y else fast, acq := min 512 (c.acq + 1), due := if 511 ≤ c.acq then .acquireComplete else .none }) ∧
    (c.state = .recover → u = { c' with
      b64 := fast, recCount := min 256 (c.recCount + 1), due := if 255 ≤ c.recCount then .recoverComplete else .none }) ∧
    (c.state = .idle → d ≤ cfg.tOn → u = { c' with b64 := c.b64 + (64 * y - c.b64) / 64 }) ∧
    (c.state = .idle → cfg.tOn < d → u = { c' with
      state := .pulse, startScan := n, startTime := time, tail := 0, com := ⟨d, 0, d, 0, sat, slip⟩, ten := ⟨0, 0, false, false⟩ }) ∧
    (c.state = .pulse ∨ c.state = .tail →
      (4000 ≤ j → u = { c' with due := .abandon }) ∧
      (j < 4000 → cfg.tOff ≤ d → u = { c' with
        state := .pulse, tail := 0, ten := ⟨0, 0, false, false⟩
        com := ⟨c.com.area + c.ten.area + d, c.com.moment + c.ten.moment + j * d, max c.com.peak d, j,
          c.com.sat || c.ten.sat || sat, c.com.slip || c.ten.slip || slip⟩ }) ∧
      (j < 4000 → d < cfg.tOff → c.tail + 1 < cfg.hold → u = { c' with
        state := .tail, tail := c.tail + 1
        ten := ⟨c.ten.area + d, c.ten.moment + j * d, c.ten.sat || sat, c.ten.slip || slip⟩ }) ∧
      (j < 4000 → d < cfg.tOff → cfg.hold ≤ c.tail + 1 → u = { c' with due := .pulseEnd }))

/-- The 512th scan of ACQUIRE and the 256th of RECOVER take the channel to IDLE and change nothing else (R27, R33). A pulse abandoned:
RECOVER with count 0, accumulators cleared, the baseline left, no summary, and ABANDONED on the open vehicle of the lane if there is
one (R30, R101). That the scan makes the event due and its own command takes it is the model's choice (log 2). -/
def Obligations.ConditionerEventsTaken : Prop :=
  ∀ (s : State) (c : Channel),
    ((s.conditioner c).due = .acquireComplete → ∃ t, exec (.acquireComplete c) s = .next t ∧
      t.cc = setCh s.cc c { s.conditioner c with state := .idle, due := .none } ∧ AgreeOutside [.cc] s t) ∧
    ((s.conditioner c).due = .recoverComplete → ∃ t, exec (.recoverComplete c) s = .next t ∧
      t.cc = setCh s.cc c { s.conditioner c with state := .idle, due := .none } ∧ AgreeOutside [.cc] s t) ∧
    ((s.conditioner c).due = .abandon → ∃ t, exec (.pulseAbandoned c) s = .next t ∧
      t.cc = setCh s.cc c { s.conditioner c with
        state := .recover, recCount := 0, com := .clear, ten := .clear, tail := 0, due := .none } ∧
      (t.vb = if (s.ctx c.lane).state = .idle then s.vb
        else s.vb.set c.lane { s.builder c.lane with
          ctx := { s.ctx c.lane with flags := (s.ctx c.lane).flags ||| VFlag.abandoned } }) ∧
      AgreeOutside [.cc, .vb] s t)

/-- A pulse that ends is dropped when its duration is below 3 or its area is not positive, whatever the slots hold; otherwise its summary is
built and clears the channel's miss count. With the opposite slot empty, or its half beyond the tolerance, nothing pairs and the summary
enters its slot OPEN with the window end W_c scans ahead. Into an empty slot nothing else changes. An older half of the channel there is
displaced first. A WAITING one leaves as a one-track row pulse. An OPEN one leaves as at its window end, a straddle row pulse with a facing
half WAITING within the tolerance, and otherwise a one-track row pulse, for it does not wait itself; a U row pulse joins its lane's list, a
D row pulse pairs at once (R34 to R38, R45, R47, R48, R50, R51, R53, R54, R56, R57, R68, R69; pairing is RowsPairIntoAxle's). That the last
scan made the end due and this command takes it is the model's choice (log 2); so is that a facing half WAITING beyond the tolerance leaves
with it (log 10). In the displacement of an OPEN half the coincidence window is in its range of at most 64 scans (R71), and in that of two
row pulses every list's entries are of its own lane (R54), which every step keeps (StepKeepsFormersAndClosedLanes). -/
def Obligations.PulseEndBuildsSummary : Prop :=
  ∀ (s : State) (c : Channel), (s.conditioner c).due = .pulseEnd →
    let k := s.conditioner c
    ∃ t, exec (.pulseEnd c) s = .next t ∧
      t.cc = setCh s.cc c { k with state := .idle, com := .clear, ten := .clear, tail := 0, due := .none } ∧
      (k.com.lastOff + 1 < 3 ∨ k.com.area ≤ 0 → AgreeOutside [.cc] s t) ∧
      (3 ≤ k.com.lastOff + 1 → 0 < k.com.area →
        let cf := (max 0 (min (16 * (k.com.lastOff : Int)) (16 * k.com.moment / k.com.area))).toNat
        let m : Summary :=
          { ch := c, area := k.com.area.toNat, peak := k.com.peak, dur := k.com.lastOff + 1, startScan := k.startScan, cf := cf
            centroid := BitVec.ofNat 36 (k.startScan.toNat * 16) + BitVec.ofNat 36 cf - 80
            time := k.startTime, sat := k.com.sat, slip := k.com.slip }
        let mine := Slot.open m (s.sck.present + BitVec.ofNat 32 s.site.coincidence)
        let entered (list : List RowPulse) : AxleFormer := { s.former c.lane with
          slots := (s.former c.lane).slots.set c.row c.side mine
          upstream := list, miss := (s.former c.lane).miss.set c.row c.side 0 }
        let alone := ∀ n, (s.slot (opposite c)).held = some n → 16 * s.site.coincidence < (fineSpan m.centroid n.centroid).natAbs
        k.summary c = some m ∧
        (alone → s.slot c = .empty →
          t.axf = s.axf.set c.lane (entered (s.former c.lane).upstream) ∧ AgreeOutside [.cc, .axf] s t) ∧
        (alone → (∀ e o, (s.slot e).held = some o → (e = c ∨ facing c = some e) → o.ch = e) →
          t.slot c = mine ∧ (∀ e, e ≠ c → facing c ≠ some e → t.slot e = s.slot e) ∧ AgreeOutside (.cc :: formerChanges) s t ∧
          (∀ o, s.slot c = .waiting o →
            RowPulseAlone [.cc] (oneTrackOf o) (s.missesCleared c) s t ∧ ∀ d, facing c = some d → t.slot d = s.slot d) ∧
          (∀ o w, s.slot c = .open o w → s.site.coincidence ≤ 64 → HalfLeaves True [.cc] o (s.missesCleared c) s t)) ∧
        (∀ o w, s.slot (opposite c) = .empty → s.slot c = .open o w → o.ch = c → c.row = .u → (s.former c.lane).upstream = [] →
          (∀ f, facing c = some f → s.slot f = .empty) → (s.ctx c.lane).state ≠ .deferred →
          t.axf = s.axf.set c.lane (entered [oneTrackOf o]) ∧ AgreeOutside [.cc, .axf] s t))

/-! ### Axle formers -/

/-- The window of an OPEN half ends. With a half OPEN in the facing slot within the tolerance of 16 × W_c it becomes WAITING and nothing
else changes; otherwise it leaves its slot. With no half in the facing slot, or one OPEN beyond the tolerance, it leaves as a one-track row
pulse; with one WAITING within the tolerance both leave as a straddle row pulse of the owner lane, the lower lane's half its left side; with
one WAITING beyond it both leave as one-track row pulses (log 10). A U row pulse joins its lane's list in the order of instants, and a ninth
forces the oldest of the nine out as an unpaired axle, which is counted for channel health; a D row pulse pairs at once (R47 to R51, R53,
R54, R56, R57, R68, R69). The coincidence window lies in its range of at most 64 scans (R71); spans of 2^31 scans or more, which wrap, are
log 35. Where two row pulses leave, every list's entries are of its own lane (R54), which every step keeps (StepKeepsFormersAndClosedLanes).
-/
def Obligations.WindowEndFormsRowPulse : Prop :=
  ∀ (s : State) (c : Channel) (m : Summary), s.slot c = .open m s.sck.present → m.ch = c →
    s.site.coincidence ≤ 64 →
    let near (n : Summary) : Prop := (fineSpan m.centroid n.centroid).natAbs ≤ 16 * s.site.coincidence
    (∀ d n w, facing c = some d → s.slot d = .open n w → near n →
      ∃ t, exec (.halfWindowEnd c) s = .next t ∧
        t.axf = s.axf.set c.lane { s.former c.lane with
          slots := (s.former c.lane).slots.set c.row c.side (.waiting m) } ∧
        AgreeOutside [.axf] s t) ∧
    ((∀ d n w, facing c = some d → s.slot d = .open n w → ¬ near n) →
      (∀ d n, facing c = some d → s.slot d = .waiting n → n.ch = d) →
      ∃ t, exec (.halfWindowEnd c) s = .next t ∧ t.slot c = .empty ∧
        (∀ e, e ≠ c → facing c ≠ some e → t.slot e = s.slot e) ∧
        HalfLeaves False [] m s.misses s t ∧ (∀ l, (t.former l).limit = (s.former l).limit) ∧ AgreeOutside formerChanges s t)

/-- Two halves of one row pair when the later pulse ends with the opposite half, OPEN or WAITING, within the tolerance: its slot is
emptied, the new summary enters none and clears its channel's miss count, and they form an own-lane row pulse at their mean instant. A U
row pulse joins its lane's list; a D row pulse pairs with the oldest candidate of it: entries older leave, entries younger stay, and on an
OPEN lane the vehicle's newest axle is the paired axle, with its instant, speed, loads and flags, or without a candidate the unpaired axle
of the D pulse, the list as it was. A neighbour's half that waited for the paired one, OPEN, leaves as a one-track row pulse, after it
(log 38), and is handled alike. So is the D half whose window ends. Each axle that is no straddle counts the enabled channels whose half
its rows lack (R45, R46, R49, R53, R54, R56, R57, R59 to R66, R68, R69, R97). In the first, the coincidence window is in its range (R71),
every slot's half is of its own channel (R45) and every list's entries of its own lane (R54); each is kept by every step
(StepKeepsFormersAndClosedLanes). -/
def Obligations.RowsPairIntoAxle : Prop :=
  (∀ (s : State) (c : Channel) (m n : Summary), s.site.coincidence ≤ 64 → SlotsOk s → ListsOk s →
    (s.conditioner c).due = .pulseEnd → (s.conditioner c).summary c = some m → (s.slot (opposite c)).held = some n →
    (fineSpan m.centroid n.centroid).natAbs ≤ 16 * s.site.coincidence →
    let taken (r : RowPulse) (t : State) : Prop := RowPulseTaken r (s.missesCleared c) s t
    let wasOpen := ∃ w, s.slot (opposite c) = .open n w
    ∃ t instant, exec (.pulseEnd c) s = .next t ∧ MeanOf m.centroid n.centroid instant ∧ taken (ownLanePulse m n instant) t ∧
      t.slot (opposite c) = .empty ∧ t.slot c = s.slot c ∧
      (∀ d k, wasOpen → facing (opposite c) = some d → s.slot d = .waiting k → t.slot d = .empty ∧ taken (oneTrackOf k) t) ∧
      (∀ d, facing (opposite c) = some d → (¬ wasOpen ∨ ∀ k, s.slot d ≠ .waiting k) →
        t.slot d = s.slot d ∧ (t.former d.lane).upstream = (s.former d.lane).upstream ∧ (t.former d.lane).miss = (s.former d.lane).miss) ∧
      AgreeOutside (.cc :: formerChanges) s t ∧
      (c.row = .u → (∀ l, (s.former l).upstream.length < 8) →
        (∀ k, (t.former k.lane).miss.get k.row k.side = s.missesCleared c k) ∧
        ((∀ l, (s.ctx l).state ≠ .deferred) → AgreeOutside [.cc, .axf] s t))) ∧
  (∀ (s : State) (c : Channel) (m : Summary), s.slot c = .open m s.sck.present → m.ch = c → c.row = .d →
    (∀ d, facing c = some d → s.slot d = .empty) →
    ∃ t, exec (.halfWindowEnd c) s = .next t ∧ t.slot c = .empty ∧ PairedDownstream (oneTrackOf m) s.misses s t)

/-- At a strobe the entries whose age exceeds that strobe's expiry limit leave the upstream list, and the others stay in their order (R55,
R71; the limit is kept from the strobe, log 40). Each one's unpaired axle, unless it is a straddle, counts the enabled channels of its row
whose half it lacks, up to 32; "channel silent" latches at every port exactly when a count reaches 32 (R57, R68, R69). The lane's builder
takes the axles, oldest entry first; then a vehicle in DEFERRED for which no older entry remains is sealed: it takes the next number and is
queued with its stamp and its axles, unless it is a continuation without an axle, which is dropped (R67, R98, R104, R115). On a CLOSED lane
the axles formed are discarded and only miss counts and their alarm can follow (R68, R94). -/
def Obligations.ExpiredEntriesLeave : Prop :=
  ∀ (s : State) (l : Lane),
    let expired (e : RowPulse) : Bool := decide (((s.former l).limit : Int) < fineSpan (fineOfScan s.sck.present) e.instant)
    let list := (s.former l).upstream
    ∃ t, exec (.upstreamExpiry l) s = .next t ∧
      ((∀ e ∈ list, e.lane = l) → (t.former l).upstream = list.filter (fun e => !expired e)) ∧
      ((∀ e ∈ list, e.lane = l) → list.any expired = true →
        (∀ e ∈ list, expired e = false → ¬ 0 < fineSpan (s.ctx l).ref e.instant) → (t.ctx l).state ≠ .deferred) ∧
      ((∀ e ∈ list, e.lane = l) →
        let rows := ownRows (list.filter expired)
        MissesCounted rows s.misses s t l ∧ (∀ k, k ≠ l → t.former k = s.former k) ∧
        ((∀ c : Channel, c.lane = l → ¬ GoesSilent rows (s.misses c) s c) →
          ∀ p, hasAny (t.sitePort p).details Detail.channelSilent.mask = hasAny (s.sitePort p).details Detail.channelSilent.mask)) ∧
      ((∀ e ∈ list, e.lane = l) →
        let kept := list.filter fun e => !expired e
        ∃ axles, List.Forall₂ (UnpairedOf s) (list.filter expired) axles ∧
          DeferralChecked (list.any expired = true) kept l ((s.withUpstream l kept).arrivals l axles) t) ∧
      (∀ k, (t.former k).slots = (s.former k).slots) ∧ AgreeOutside formerChanges s t ∧
      ((∀ e ∈ list, e.lane = l) → (s.builder l).mode = .closed → (s.ctx l).state = .idle → AgreeOutside [.axf, .port] s t)

/-! ### Vehicle builders and triggers -/

/-- The fourth differing sample is taken. The loop gone present on an OPEN lane records the scan; in IDLE it opens a loop vehicle with no
axles, the current generation as its stamp and the trigger of an opening, and a vehicle in CLOSING or DEFERRED is OPEN again as a loop
vehicle, its timer stopped and all else kept, without a trigger. Gone absent under an OPEN vehicle it starts the close timer with the
loop-absent instant, 16 × the edge scan, as reference. On a CLOSED lane in IDLE only the loop's own fields change, and so where the
change to absent finds no OPEN vehicle. A lane in LOOP_FAULT leaves it at the change to absent, which does not act on its vehicle (R91,
R92, R95, R96, R116). -/
def Obligations.LoopOpensAndClosesVehicle : Prop :=
  ∀ (s : State) (l : Lane), (s.builder l).pend = 4 →
    let b := s.builder l
    let c := s.ctx l
    let present : Builder := { b with present := true, pend := 0, presentCount := 0, went := some s.sck.present }
    let absent : Builder := { b with present := false, pend := 0, presentCount := 0, loopFault := false }
    let becomes (b' : Builder) : Prop := ∃ t, exec (.loopChange l) s = .next t ∧ t.vb = s.vb.set l b' ∧ AgreeOutside [.vb] s t
    (b.present = false → b.loopFault = false → b.mode = .open →
      (c.state = .idle → becomes { present with
        ctx := ⟨.open, true, [], 0, 0, none, s.generation, s.sck.strobeTime, false⟩, pulse := openingPulse s l }) ∧
      (c.state = .closing ∨ c.state = .deferred → becomes { present with
        ctx := { c with state := .open, loopKind := true, timer := none } }) ∧
      (c.state = .open → becomes present)) ∧
    (b.present = false → b.loopFault = false → b.mode = .closed → c.state = .idle → becomes present) ∧
    (b.present = true →
      (b.loopFault = false → c.state = .open → becomes { absent with
        ctx := { c with
          state := .closing, ref := BitVec.ofNat 36 ((s.sck.present - 3).toNat * 16)
          timer := some ⟨0, s.site.closeDelay * 8⟩ } }) ∧
      (b.loopFault = true ∨ c.state ≠ .open → becomes absent))

/-- Entry to LOOP_FAULT latches "loop fault" at every port; an OPEN vehicle becomes a loop-less one in CLOSING with LOOP_FAULT and
its close timer at 0 (R92, R96). The strobe that completes a trigger pulse takes the line low and nothing else (R116). -/
def Obligations.LoopFaultEnteredTriggerEnded : Prop :=
  (∀ (s : State) (l : Lane), (s.builder l).present = true → (s.builder l).loopFault = false →
      (s.builder l).presentCount = 960000 →
      ∃ t, exec (.loopFaultEntry l) s = .next t ∧ (t.builder l).loopFault = true ∧
        (∀ p, t.sitePort p = (s.sitePort p).latchDetail .loopFault) ∧
        (∀ k, k ≠ l → t.builder k = s.builder k) ∧
        (t.builder l).mode = (s.builder l).mode ∧ (t.builder l).present = true ∧
        ((s.ctx l).state = .idle → t.ctx l = s.ctx l) ∧
        ((s.ctx l).state = .open → t.ctx l = { s.ctx l with
          state := .closing, loopKind := false, timer := some ⟨0, s.site.closeDelay * 8⟩
          flags := (s.ctx l).flags ||| VFlag.loopFault }) ∧
        AgreeOutside [.vb, .port] s t) ∧
  (∀ (s : State) (l : Lane) (k : Timer), (s.builder l).pulse = some k → k.limit ≤ k.count →
      ∃ t, exec (.triggerPulseEnd l) s = .next t ∧ t.vb = s.vb.set l { s.builder l with pulse := none } ∧
        AgreeOutside [.vb] s t)

/-- The close timer of a vehicle in CLOSING expires. While an older entry is in the upstream list it becomes DEFERRED, a loop-less
vehicle with the expiring strobe as its reference. Otherwise, unless it is a continuation without an axle, which is dropped, it takes the
next number and is queued as the newest vehicle when the queue has room, and the context is IDLE (R98, R104, R115, R117, R144). A
sealing that finds the counter at 4,294,967,295 takes no number and is not queued, and "record dropped" latches at every port
(R115). -/
def Obligations.CloseTimerSealsVehicle : Prop :=
  ∀ (s : State) (l : Lane) (ref : Instant), ClosesNow s l ref →
    ∃ t, exec (.closeTimerExpiry l) s = .next t ∧ (∀ j, j ≠ l → t.builder j = s.builder j) ∧
      (¬ NoneOlder s l ref → t.ctx l = { s.ctx l with state := .deferred, ref := ref, timer := none } ∧ AgreeOutside [.vb] s t) ∧
      (NoneOlder s l ref → t.ctx l = .idle ∧ AgreeOutside sealingChanges s t ∧
        ((s.ctx l).cont = true → (s.ctx l).axles = [] → AgreeOutside [.vb] s t) ∧
        (¬ ((s.ctx l).cont = true ∧ (s.ctx l).axles = []) → s.vehicleNumber < 4294967295 → s.rst.queue.length < 4 →
          t.vehicleNumber = s.vehicleNumber + 1 ∧
          ∃ r, t.rst = { s.rst with queue := s.rst.queue ++ [r] } ∧ r.number = s.vehicleNumber ∧ r.lane = l ∧
            r.generation = (s.ctx l).stamp ∧ r.quality = s.sck.timeState ∧ r.temp = (s.laneTemp l).value ∧
            r.source = (s.laneTemp l).reported ∧
            r.time = (((s.ctx l).axles.head?.map fun h => h.axle.time).getD (s.ctx l).openTime) ∧
            r.axles.map (fun a => (a.left, a.right, a.spacing, a.flags)) =
              (s.ctx l).axles.map (fun h => (h.axle.left, h.axle.right, h.spacing, h.axle.flags))) ∧
        (¬ ((s.ctx l).cont = true ∧ (s.ctx l).axles = []) → s.vehicleNumber = 4294967295 →
          (∀ p, t.sitePort p = (s.sitePort p).latchDetail .recordDropped) ∧ AgreeOutside [.vb, .port] s t))

/-- What sealing works out of a vehicle, in the record it queues: speed, groups, gross weight, class by the first matching rule, overload
detail, flags and verdict, by the settings in use and the lane as it stands (R85, R92, R106 to R113). -/
def Obligations.SealedVehicleJudged : Prop :=
  ∀ (s : State) (l : Lane) (ref : Instant), ClosesNow s l ref → NoneOlder s l ref →
    ¬ ((s.ctx l).cont = true ∧ (s.ctx l).axles = []) → s.vehicleNumber < 4294967295 → s.rst.queue.length < 4 →
    ∃ t r, exec (.closeTimerExpiry l) s = .next t ∧ t.rst.queue = s.rst.queue ++ [r] ∧
      (let axles := (s.ctx l).axles
       let speeds := axles.filterMap fun h => h.axle.speed
       let speed := (2 * speeds.sum + speeds.length) / (2 * speeds.length)
       let rules := s.settings.rules.take s.site.classRuleCount
       let temp := s.laneTemp l
       let lost := temp.source = .held ∧ 7200000 ≤ temp.held
       let has (f : BitVec 24) : Prop := hasAny r.flags f = true
       let anyAxle (f : BitVec 8) : Prop := ∃ h ∈ axles, hasAny h.axle.flags f = true
       let gathered (f : BitVec 24) : Prop := hasAny (s.ctx l).flags f = true
       r.speed = (if speeds = [] then none else some speed) ∧ r.gross = (axles.map fun h => h.axle.left + h.axle.right).sum ∧
       (∀ a, r.axles[0]? = some a → a.group = 1) ∧
       (∀ k a b, r.axles[k]? = some a → r.axles[k + 1]? = some b →
         b.group = if b.spacing ≤ s.site.groupSpacing then a.group else a.group + 1) ∧
       (∀ k, r.ruleIndex = some k ↔ 2 ≤ axles.length ∧ ∃ i rule, k = i + 1 ∧ rules[i]? = some rule ∧ RuleMatches rule axles r.gross ∧
         ∀ j q, j < i → rules[j]? = some q → ¬ RuleMatches q axles r.gross) ∧
       (r.ruleIndex = none → r.cls = 0) ∧ (∀ i rule, r.ruleIndex = some (i + 1) → rules[i]? = some rule → r.cls = rule.code) ∧
       (∀ lim, (r.ruleIndex = none → lim = s.site.unclassified) →
         (∀ i rule, r.ruleIndex = some (i + 1) → rules[i]? = some rule → lim = rule.limits) →
         (r.overload = none ↔ ∀ o, ¬ Exceedance s.site.tolerance lim r o) ∧
         (∀ o, r.overload = some o → Exceedance s.site.tolerance lim r o ∧
           ∀ p, Exceedance s.site.tolerance lim r p → RanksFirst o p)) ∧
       (has VFlag.creep ↔ gathered VFlag.creep ∨ ∃ v ∈ speeds, v < 139) ∧
       (has VFlag.overspeed ↔ gathered VFlag.overspeed ∨ ∃ v ∈ speeds, 5556 < v) ∧
       (has VFlag.accel ↔ gathered VFlag.accel ∨ ∃ v ∈ speeds, ∃ w ∈ speeds, speed < (v - w) * 10) ∧
       (has VFlag.singleRow ↔ gathered VFlag.singleRow ∨ anyAxle AFlag.singleRow) ∧
       (has VFlag.rowDisagree ↔ gathered VFlag.rowDisagree ∨ anyAxle AFlag.rowDisagree) ∧
       (has VFlag.oneTrack ↔ gathered VFlag.oneTrack ∨ anyAxle AFlag.oneTrack) ∧
       (has VFlag.unpaired ↔ gathered VFlag.unpaired ∨ anyAxle AFlag.unpaired) ∧
       (has VFlag.straddle ↔ gathered VFlag.straddle ∨ anyAxle AFlag.straddle) ∧
       (has VFlag.slip ↔ gathered VFlag.slip ∨ anyAxle AFlag.slip) ∧
       (has VFlag.saturated ↔ gathered VFlag.saturated ∨ anyAxle AFlag.saturated) ∧
       (has VFlag.noAxles ↔ gathered VFlag.noAxles ∨ axles = []) ∧
       (has VFlag.loopFault ↔ gathered VFlag.loopFault ∨ (s.builder l).loopFault = true) ∧
       (has VFlag.frost ↔ gathered VFlag.frost ∨ temp.frost = true) ∧ (has VFlag.hot ↔ gathered VFlag.hot ∨ temp.hot = true) ∧
       (has VFlag.tempHeld ↔ gathered VFlag.tempHeld ∨ temp.source = .held ∧ ¬ lost) ∧
       (has VFlag.tempLost ↔ gathered VFlag.tempLost ∨ lost ∧ (s.laneSet l).tempCorrection = true) ∧
       (∀ f ∈ [VFlag.linkLoss, VFlag.settingsChanged, VFlag.laneClosed, VFlag.truncated, VFlag.continued, VFlag.abandoned,
         VFlag.noLoop, VFlag.split], has f ↔ gathered f) ∧
       r.verdict = (if ∀ h ∈ axles, hasAny h.axle.flags AFlag.unpaired = true then .notWeighed
         else if r.overload = none then .clear else if hasAny r.flags 0x01FFFF = true then .unreliable else .suspect))

/-- What the takers make of a vehicle sealed by its close timer. A full commit queue refuses and counts it. The trigger fires in
ON_SUSPECT and BOTH at a verdict SUSPECT, without a number too (log 12). In ARMED a candidate of the run becomes the pending pass with
REF_PENDING at the owner; in PENDING and FULL it is only counted. An admitted vehicle's first axle joins the lane's window; the
64th is evaluated, the window emptied, and the limited proposal dropped when it equals the factor, applied by AUTO where permitted, or
held with DRIFT_PROPOSAL at every port with EDIT, in each case in place of any held before (R116, R117, R121, R122, R124, R133, R144). -/
def Obligations.AnnouncementTaken : Prop :=
  ∀ (s : State) (l : Lane) (ref : Instant), ClosesNow s l ref → NoneOlder s l ref →
    ¬ ((s.ctx l).cont = true ∧ (s.ctx l).axles = []) →
    let axles := (s.ctx l).axles
    let r := sealRecord s l (s.ctx l) 0 s.vehicleNumber
    let loads := axles.map fun h => h.axle.left + h.axle.right
    let cfg := s.laneSet l
    let k := s.tracker l
    let reliable := hasAny r.flags 0x01FFFF = false
    let numbered := s.vehicleNumber < 4294967295
    let candidate := s.rru.state ≠ .idle ∧ s.rru.lane = some l ∧ axles.length = s.rru.loads.length ∧ reliable ∧
      ∀ h ∈ axles, 0 < h.axle.left + h.axle.right ∧ 0 < h.axle.wU ∧ 0 < h.axle.wD
    let admitted := cfg.driftMode ≠ .off ∧ k.app = none ∧ ¬ (s.rru.state ≠ .idle ∧ s.rru.lane = some l) ∧ r.cls = cfg.refClass ∧
      r.verdict ≠ .notWeighed ∧ reliable ∧ (∃ v, r.speed = some v ∧ 1667 ≤ v ∧ v ≤ 3056) ∧ cfg.refGrossMin ≤ r.gross ∧
      (r.source = .primary ∨ r.source = .secondary) ∧ 0 < loads.headD 0
    let d := s.sst.active.drift.get l
    let ev := evaluate (k.window ++ [loads.headD 0]) d cfg.driftTarget
    ∃ t, exec (.closeTimerExpiry l) s = .next t ∧
      ((t.builder l).pulse = if r.verdict = .suspect ∧ (cfg.triggerMode = .onSuspect ∨ cfg.triggerMode = .both) then
        some ⟨0, cfg.triggerWidth * 8⟩ else (s.builder l).pulse) ∧
      (numbered → s.rst.queue.length < 4 → t.rst = { s.rst with queue := s.rst.queue ++ [r] }) ∧
      (numbered → 4 ≤ s.rst.queue.length → t.rst = { s.rst with dropped := min 65535 (s.rst.dropped + 1) } ∧
        ∀ p, hasAny (t.sitePort p).details Detail.recordDropped.mask = true) ∧
      (numbered → candidate → s.rru.state = .armed →
        t.rru = { s.rru with
          state := .pending, pendTimer := some 0, armed := none
          pass := some ⟨s.vehicleNumber, r.speed.getD 0, loads, axles.map fun h => h.axle.wU, axles.map fun h => h.axle.wD⟩ } ∧
        ∀ p, s.rru.owner = some p → hasAny (t.sitePort p).cond Condition.refPending.mask = true) ∧
      (numbered → candidate → s.rru.state ≠ .armed → t.rru = { s.rru with skipped := min 65535 (s.rru.skipped + 1) }) ∧
      (¬ (numbered ∧ candidate) → t.rru = s.rru) ∧ (¬ (numbered ∧ admitted) → t.dtk = s.dtk) ∧
      (numbered → admitted → k.window.length < 63 →
        t.dtk = s.dtk.set l { k with window := k.window ++ [loads.headD 0] }) ∧
      (numbered → admitted → 63 ≤ k.window.length →
        let done := { k with window := [], proposal := none, last := some ev, evals := min 65535 (k.evals + 1) }
        let auto := cfg.driftMode = .auto ∧ s.site.autoDrift = true
        (ev.limited = d → t.dtk = s.dtk.set l done) ∧
        (ev.limited ≠ d → auto → t.dtk = s.dtk.set l { done with app := some ⟨.proposal, ev.limited⟩ }) ∧
        (ev.limited ≠ d → ¬ auto → t.dtk = s.dtk.set l { done with proposal := some ev.limited } ∧
          ∀ p, (s.may p).edit = true → hasAny (t.sitePort p).cond Condition.driftProposal.mask = true))

/-- An axle at its lane's builder, as the expiry of a lone U entry hands it on. CLOSED discards it. Else, of the generation the context
stands at, it opens a loop-less vehicle in IDLE with NO_LOOP; beyond the split spacing it seals the vehicle and begins the next, OPEN again
under a loop; as a thirteenth it seals it TRUNCATED and begins its continuation; else it joins with its spacing, the span from the last axle
times the mean of their speeds, or the one speed present, 0 without a speed or a positive span (R105). A newer generation (log 21) is taken
as the rise first: a vehicle of a lane not affected (log 14) that holds no straddle axle takes the new stamp, any other is sealed
SETTINGS_CHANGED and the axle begins its continuation. An older one seals what other axles there were, and then itself, both with
SETTINGS_CHANGED. Each sealed vehicle takes the next number and, where the queue has room, its record is the newest there, with its stamp,
its axles and that flag (R94, R95, R97, R99, R100, R103 to R105, R115, R116). -/
def Obligations.AxleArrives : Prop :=
  (∀ (s : State) (l : Lane) (e : RowPulse), (s.former l).upstream = [e] → e.lane = l → (s.ctx l).state ≠ .deferred →
    ((s.former l).limit : Int) < fineSpan (fineOfScan s.sck.present) e.instant →
    ∃ t a, exec (.upstreamExpiry l) s = .next t ∧ UnpairedOf s e a ∧
      t.vb = (axleArrival l a (s.withUpstream l [])).vb ∧ t.rst = (axleArrival l a (s.withUpstream l [])).rst) ∧
  (∀ (s : State) (l : Lane) (a : Axle),
    let c := s.ctx l
    let t := axleArrival l a s
    let fault (f : BitVec 24) : BitVec 24 := if (s.builder l).loopFault then f ||| VFlag.loopFault else f
    let sealed (flag : BitVec 24) : Prop := SealedNext flag c l s t
    let pulseKept := (s.laneSet l).triggerMode = .off → (t.builder l).pulse = (s.builder l).pulse
    let spacing (prev : HeldAxle) : Nat := axleSpacing prev.axle a
    ((s.builder l).mode = .closed → t = s) ∧
    ((s.builder l).mode = .open → (∀ k, k ≠ l → t.builder k = s.builder k) ∧ pulseKept ∧
      (c.state = .idle → a.generation = s.generation →
        t.vb = s.vb.set l { s.builder l with ctx := looplessWith s l a VFlag.noLoop, pulse := openingPulse s l } ∧
        AgreeOutside [.vb] s t) ∧
      (c.state ≠ .idle → a.generation = c.stamp →
        (c.axles = [] → t.vb = s.vb.set l { s.builder l with ctx := retimed s { c with axles := [⟨a, 0⟩] } } ∧
          AgreeOutside [.vb] s t) ∧
        (∀ prev, c.axles.getLast? = some prev →
          (spacing prev ≤ s.site.splitSpacing → c.axles.length < 12 →
            t.vb = s.vb.set l { s.builder l with ctx := retimed s { c with axles := c.axles ++ [⟨a, spacing prev⟩] } } ∧
            AgreeOutside [.vb] s t) ∧
          (s.site.splitSpacing < spacing prev → sealed 0 ∧ AgreeOutside sealingChanges s t ∧
            (c.state = .open → t.ctx l = ⟨.open, true, [⟨a, 0⟩], fault VFlag.split, 0, none, s.generation, s.sck.strobeTime, false⟩) ∧
            (c.state ≠ .open → t.ctx l = looplessWith s l a (VFlag.split ||| VFlag.noLoop)) ∧
            ((s.laneSet l).triggerMode = .onOpen ∨ (s.laneSet l).triggerMode = .both →
              (t.builder l).pulse = some ⟨0, (s.laneSet l).triggerWidth * 8⟩)) ∧
          (spacing prev ≤ s.site.splitSpacing → 12 ≤ c.axles.length → sealed VFlag.truncated ∧ AgreeOutside sealingChanges s t ∧
            t.ctx l = retimed s { c with axles := [⟨a, 0⟩], flags := fault VFlag.continued, cont := false }))) ∧
      (c.state ≠ .idle → a.generation ≠ c.stamp → 0 < (a.generation - c.stamp).toInt →
        let straddles := ∃ h ∈ c.axles, hasAny h.axle.flags AFlag.straddle = true
        (s.sst.riseLanes.get l = false → ¬ straddles → c.axles.length < 12 →
          (∀ prev, c.axles.getLast? = some prev → spacing prev ≤ s.site.splitSpacing) →
          t.ctx l = retimed s { c with
            stamp := s.generation, axles := c.axles ++ [⟨a, (c.axles.getLast?.map spacing).getD 0⟩] } ∧ AgreeOutside [.vb] s t) ∧
        ((s.sst.riseLanes.get l = true ∨ straddles) → ¬ (c.cont = true ∧ c.axles = []) → sealed VFlag.settingsChanged ∧
          t.ctx l = retimed s { c with
            axles := [⟨a, 0⟩], flags := fault VFlag.settingsChanged, stamp := s.generation, cont := true })) ∧
      ((c.state = .idle ∧ a.generation ≠ s.generation ∧ (a.generation - s.generation).toInt ≤ 0) ∨
        (c.state ≠ .idle ∧ a.generation ≠ c.stamp ∧ (a.generation - c.stamp).toInt ≤ 0) →
        (t.ctx l).axles = [] ∧ (t.ctx l).stamp = s.generation ∧ (t.ctx l).cont = true ∧
        hasAny (t.ctx l).flags VFlag.settingsChanged = true ∧
        (ContextOk c →
          (let others := if c.axles = [] then 0 else 1
           s.vehicleNumber + others < 4294967295 → t.vehicleNumber = s.vehicleNumber + others + 1 ∧
           (s.rst.queue.length + others < 4 → ∃ before r, t.rst.queue = s.rst.queue ++ before ++ [r] ∧ before.length = others ∧
             (∀ q ∈ before, q.number = s.vehicleNumber ∧ RecordsVehicle VFlag.settingsChanged c l q) ∧
             r.number = s.vehicleNumber + others ∧ r.lane = l ∧ r.generation = a.generation ∧
             hasAny r.flags VFlag.settingsChanged = true ∧
             r.axles.map (fun x => (x.left, x.right, x.spacing, x.flags)) = [(a.left, a.right, 0, a.flags)])))))) ∧
  (∀ prev a : Axle,
    let span := fineSpan a.instant prev.instant
    let at' (v : Nat) : Prop := axleSpacing prev a = if 0 < span then min 65535 ((span.toNat * v + 64000) / 128000) else 0
    (∀ v w, prev.speed = some v → a.speed = some w → at' ((v + w + 1) / 2)) ∧
    (∀ v, prev.speed = some v → a.speed = none → at' v) ∧ (∀ w, prev.speed = none → a.speed = some w → at' w) ∧
    (prev.speed = none → a.speed = none → axleSpacing prev a = 0))

/-- LANE MODE from a port with LANE, naming at least one lane, direct, broadcast or to the group: each lane named is in the mode. A lane
taken to CLOSED has its vehicle sealed and queued with LANE_CLOSED, unless that is a continuation without an axle, which is dropped (log
13), and assembles none; a run on it ends ABORTED; the trackers are as before. A lane taken to OPEN with its loop present and not in
LOOP_FAULT has a loop vehicle, with the trigger of an opening; that its opening time is the site time of the last strobe is the model's
choice (log 15). The lanes not named, or in the mode already, are untouched. A direct one is answered OK; the others are answered to no
one and the port is back in LISTEN, as it is with nothing done when a check of theirs fails. A direct one that names no lane, or a mode
above 1, is refused INVALID (R93, R94, R116, R129, R139, R160, R165, section 10.2). -/
def Obligations.LaneModeCarriedOut : Prop :=
  let carriedOut (mask mode : Byte) (s t : State) : Prop :=
    (∀ l ∉ lanesOf mask, t.builder l = s.builder l) ∧
    (∀ l ∈ lanesOf mask,
      let b := s.builder l
      (mode = 0 → b.mode = .closed →
        (b.present = true → b.loopFault = false → t.builder l = { b with
          mode := .open, ctx := ⟨.open, true, [], 0, 0, none, s.generation, s.sck.strobeTime, false⟩, pulse := openingPulse s l }) ∧
        (b.present = false ∨ b.loopFault = true → t.builder l = { b with mode := .open })) ∧
      (mode = 1 → b.mode = .open →
        (t.builder l).mode = .closed ∧ (t.ctx l).state = .idle ∧
        (b.ctx.state ≠ .idle → ¬ (b.ctx.cont = true ∧ b.ctx.axles = []) → s.rst.queue.length ≤ 1 →
          s.vehicleNumber + 3 ≤ 4294967295 →
          ∃ r ∈ t.rst.queue, r.lane = l ∧ hasAny r.flags VFlag.laneClosed = true ∧ r.generation = b.ctx.stamp ∧
            r.axles.length = b.ctx.axles.length) ∧
        (s.runActive l = true → t.rru = { s.rru with
          state := .idle, pass := none, pendTimer := none, armed := none, result := .aborted })) ∧
      (b.mode = (if mode = 0 then .open else .closed) → t.builder l = b)) ∧
    ((∀ l ∈ lanesOf mask, mode = 1 → (s.builder l).mode = .open → s.runActive l = false) → t.rru = s.rru) ∧ t.dtk = s.dtk
  (∀ (s : State) (p : Port) (dest mask mode : Byte), TakenDirect s p dest [mask, mode] → (s.may p).lane = true →
    lanesOf mask ≠ [] → mode.toNat ≤ 1 →
    ∃ t, exec (.laneMode p dest [mask, mode]) s = .next t ∧ carriedOut mask mode s t ∧
      (t.sitePort p).state = .reply ∧ (t.sitePort p).reply = replyFrame dest .ok [] ∧
      t.sst = LeaseRestarted p s.sst ∧ AgreeOutside (.sst :: sealingChanges) s t) ∧
  (∀ (s : State) (p : Port) (dest mask mode : Byte), TakenDirect s p dest [mask, mode] → (s.may p).lane = true →
    (lanesOf mask = [] ∨ 1 < mode.toNat) →
    ∃ t, exec (.laneMode p dest [mask, mode]) s = .next t ∧ OnlyAnswered s t p dest 12 [mask, mode] .invalid []) ∧
  (∀ (s : State) (p : Port) (dest : Byte) (payload : List Byte), (s.sitePort p).takes = true → payload.length ≤ 1024 →
    (s.addressee p dest = .broadcast ∨ s.addressee p dest = .group) →
    ∃ t, exec (.laneMode p dest payload) s = .next t ∧
      (∀ mask mode, payload = [mask, mode] → (s.may p).lane = true → lanesOf mask ≠ [] → mode.toNat ≤ 1 →
        carriedOut mask mode s t ∧ (t.sitePort p).state = .listen ∧ (t.sitePort p).idle = 0 ∧
        AgreeOutside sealingChanges s t) ∧
      ((payload.length ≠ 2 ∨ (s.may p).lane = false ∨
          ∃ mask mode, payload = [mask, mode] ∧ (lanesOf mask = [] ∨ 1 < mode.toNat)) →
        t.port = s.port.set p ((s.sitePort p).listening (s.portSet p).rate) ∧ AgreeOutside [.port] s t))

/-! ### Temperature monitor -/

/-- The 2,000th conversion completes a reading: the accumulator is cleared, the reading is the mean rounded half up with its class by the
two thresholds, the stale timer restarts. The persistence counts follow the class. A good reading's value, on the curve and kept within
−400 and 800, seeds f, moves it by an eighth, is set aside as a spike, or as the third spike in turn is taken; a bad one leaves f. A probe
in NONE or GOOD is GOOD at once, in OPEN, SHORT or STALE at the fifth good reading, and OPEN or SHORT at the third bad one of that class,
where f is unseeded; a change of state latches "probe state" at every port. Then every lane is re-evaluated (R75, R77 to R84). -/
def Obligations.ProbeReadingCompletes : Prop :=
  ∀ (s : State) (p : Probe), (s.ptm.probe.get p).count = 2000 →
    let q := s.ptm.probe.get p
    let cfg := s.settings.probe.get p
    let raw := (2 * q.sum + 2000) / 4000
    let cls : ReadingClass := if raw < cfg.openT then .badOpen else if cfg.shortT < raw then .badShort else .good
    let v := max (-400) (min 800 (readCurve cfg.curve raw))
    ∃ t, exec (.probeReading p) s = .next t ∧
      (let u := t.ptm.probe.get p
       u.sum = 0 ∧ u.count = 0 ∧ u.stale = some 0 ∧ u.last = some ⟨raw, cls⟩ ∧
       u.good = (if cls = .good then min 5 (q.good + 1) else 0) ∧
       u.badOpen = (if cls = .badOpen then min 3 (q.badOpen + 1) else 0) ∧
       u.badShort = (if cls = .badShort then min 3 (q.badShort + 1) else 0) ∧
       (cls = .good → u.state = if q.state = .none ∨ q.state = .good ∨ 4 ≤ q.good then .good else q.state) ∧
       (cls = .badOpen → u.state = if 2 ≤ q.badOpen then .open else q.state) ∧
       (cls = .badShort → u.state = if 2 ≤ q.badShort then .short else q.state) ∧
       (cls = .good → (q.f = none → u.f = some v ∧ u.spikes = 0) ∧
         ∀ f, q.f = some f →
           ((v - f).natAbs ≤ s.site.spikeLimit → u.f = some (f + Int.tdiv (v - f) 8) ∧ u.spikes = 0) ∧
           (s.site.spikeLimit < (v - f).natAbs → 2 ≤ q.spikes → u.f = some v ∧ u.spikes = 0) ∧
           (s.site.spikeLimit < (v - f).natAbs → q.spikes < 2 → u.f = some f ∧ u.spikes = q.spikes + 1)) ∧
       (cls ≠ .good → u.spikes = 0 ∧ u.f = if u.state = q.state then q.f else none) ∧
       (∀ r, t.sitePort r = if u.state = q.state then s.sitePort r else (s.sitePort r).latchDetail .probeState)) ∧
      (∀ r, r ≠ p → t.ptm.probe.get r = s.ptm.probe.get r) ∧
      (∀ l, LaneReevaluated t.ptm (s.laneSet l).probeMap (s.laneTemp l) (t.laneTemp l)) ∧
      t.ptm.slotRef = s.ptm.slotRef ∧ t.ptm.discards = s.ptm.discards ∧ AgreeOutside [.ptm, .port] s t

/-- The 24,000th strobe without a reading takes a probe in GOOD, OPEN or SHORT to STALE, with f unseeded and every count cleared,
latches "probe state" at every port and re-evaluates every lane (R80, R81, R83, R84). The strobe that completes 900 s of HELD makes the
lane LOST, with its value, source and flags kept (R82, R84; that the strobe makes this due and the command takes it is log 2). -/
def Obligations.MonitorTimersExpire : Prop :=
  (∀ (s : State) (p : Probe), (s.ptm.probe.get p).stale = some 24000 →
      ((s.ptm.probe.get p).state = .good ∨ (s.ptm.probe.get p).state = .open ∨ (s.ptm.probe.get p).state = .short) →
      ∃ t, exec (.probeStale p) s = .next t ∧
        t.ptm.probe = s.ptm.probe.set p { s.ptm.probe.get p with
          state := .stale, f := none, spikes := 0, good := 0, badOpen := 0, badShort := 0 } ∧
        (∀ q, t.sitePort q = (s.sitePort q).latchDetail .probeState) ∧
        (∀ l, LaneReevaluated t.ptm (s.laneSet l).probeMap (s.laneTemp l) (t.laneTemp l)) ∧
        t.ptm.slotRef = s.ptm.slotRef ∧ t.ptm.discards = s.ptm.discards ∧ AgreeOutside [.ptm, .port] s t) ∧
  (∀ (s : State) (l : Lane), (s.laneTemp l).source = .held → (s.laneTemp l).lostDue = true →
      ∃ t, exec (.laneTempLost l) s = .next t ∧
        t.ptm = { s.ptm with lane := s.ptm.lane.set l { s.laneTemp l with held := 7200000, lostDue := false } } ∧
        (t.laneTemp l).reported = .lost ∧ AgreeOutside [.ptm] s t)

/-! ### Drift trackers -/

/-- An evaluation of a window of 64 against the factor D and the target: the trimmed mean is that of the middle 48 entries, the 8 lowest
and the 8 highest set aside, rounded half up; the ratio is target × 4,096 / mean, rounded half up; the unlimited proposal is
floor((D × ratio + 2,048) / 4,096); the limited one is that kept within D − 41 and D + 41 and then within 3,686 and 4,506, so that it lies
within 41 of D and within the range of a factor (R123, R126). -/
def Obligations.EvaluationIsLimited : Prop :=
  ∀ (window : List Nat) (d target : Nat), FactorOk d →
    let e := evaluate window d target
    (∀ low middle high : List Nat, window.Perm (low ++ middle ++ high) → low.length = 8 → middle.length = 48 → high.length = 8 →
      (∀ x ∈ low, ∀ y ∈ middle, x ≤ y) → (∀ y ∈ middle, ∀ z ∈ high, y ≤ z) → e.mean = (middle.sum + 24) / 48) ∧
    e.ratio = (2 * (target * 4096) + e.mean) / (2 * e.mean) ∧ e.unlimited = (d * e.ratio + 2048) / 4096 ∧
    e.limited = max 3686 (min 4506 (max (d - 41) (min (d + 41) e.unlimited))) ∧
    FactorOk e.limited ∧ e.limited ≤ d + 41 ∧ d ≤ e.limited + 41 ∧ (e.unlimited = d → e.limited = d)

/-- A pending application whose conditions hold is taken: the factor becomes its value, the generation goes up by one, programming
starts with the image then in use, the window is emptied, a held proposal withdrawn, nothing is pending, and the lane's own context
is left as it is, while every other builder takes the rise: a vehicle that holds a straddle axle is sealed SETTINGS_CHANGED and
continued, any other takes the new stamp (R103, R125, R126, R181; the generation wraps, log 21; that the stored image does not agree from
the start of programming, before the grant of step 1, is log 7; that a continuation without an axle is dropped is log 13). -/
def Obligations.DriftApplicationTaken : Prop :=
  ∀ (s : State) (l : Lane) (a : Application), (s.tracker l).app = some a → (s.ctx l).state = .idle → s.sst.prog = .idle →
    s.runActive l = false →
    ∃ t, exec (.driftApplicationTaken l) s = .next t ∧
      t.sst.active = { s.sst.active with
        drift := s.sst.active.drift.set l a.value, generation := s.sst.active.generation + 1 } ∧
      t.sst.prog = .ready 1 t.sst.active ∧ t.sst.nvGood = false ∧ t.sst.edit = s.sst.edit ∧
      (t.tracker l).window = [] ∧ (t.tracker l).proposal = none ∧ (t.tracker l).app = none ∧
      t.ctx l = s.ctx l ∧ (∀ k, RiseTaken (k = l) s t k) ∧ AgreeOutside (.sst :: sealingChanges) s t

/-- DRIFT APPLY and DRIFT RESET check the lane, the token and the calibration-enable line in that order, each refusing with its status and
changing nothing but the port, the holder's lease and the level read, which is kept (log 5); DRIFT APPLY then needs a proposal. Those that
pass are answered OK: the proposal, or 4,096 with the window emptied, becomes the pending application, and a reset already pending stays as
it is (R127, R128). -/
def Obligations.DriftRequestsCheckedAndTaken : Prop :=
  ∀ (s : State) (p : Port) (dest lane : Byte) (key : Bool), TakenDirect s p dest [lane] →
    let refused (i : Instr) (code : Byte) (st : Status) : Prop :=
      ∃ t, exec i s = .next t ∧ OnlyAnswered (s.withKey key) t p dest code [lane] st []
    let both (st : Status) : Prop := refused (.driftApply p dest [lane] key) 26 st ∧ refused (.driftReset p dest [lane] key) 27 st
    let taken (i : Instr) (code : Byte) (l : Lane) (k : DriftTracker) : Prop :=
      ∃ t, exec i s = .next t ∧ t.dtk = s.dtk.set l k ∧ Answered s t p dest code [lane] .ok [] ∧
        t.sst = LeaseRestarted p s.sst ∧ t.lines = { s.lines with key := key } ∧ AgreeOutside [.lines, .dtk, .port, .sst] s t
    (lane.toNat < 1 ∨ 3 < lane.toNat → both .invalid) ∧
    ∀ l, lane.toNat = l.number →
      (s.holdsToken p = false → both .notHolder) ∧ (s.holdsToken p = true → key = false → both .denied) ∧
      (s.holdsToken p = true → key = true →
        ((s.tracker l).proposal = none → refused (.driftApply p dest [lane] key) 26 .noProposal) ∧
        (∀ v, (s.tracker l).proposal = some v → taken (.driftApply p dest [lane] key) 26 l
          { s.tracker l with proposal := none, app := some ⟨.proposal, v⟩ }) ∧
        (let pending := ∃ v, (s.tracker l).app = some ⟨.reset, v⟩
         (¬ pending → taken (.driftReset p dest [lane] key) 27 l
           { s.tracker l with window := [], proposal := none, app := some ⟨.reset, 4096⟩ }) ∧
         (pending → refused (.driftReset p dest [lane] key) 27 .ok)))

/-! ### Reference run -/

/-- START RUN from the holder, with the unit IDLE, the lane OPEN, its two curves alike in x and 2 to 12 loads of 500 to 30,000 kg, starts
a run: ARMED, owned by the port, nothing passed, the armed timer at 0, the speed points the x of the curves, each with the y of the lane's
U curve and of its D curve there (R132, R137; that these are kept from START RUN is log 19). With a run not IDLE it is refused BUSY;
otherwise INVALID for a lane, axle count or load out of range, a CLOSED lane, or curves not alike in x, with nothing else changed (R132,
R183). -/
def Obligations.StartRunArms : Prop :=
  (∀ (s : State) (p : Port) (dest : Byte) (l : Lane) (loads : List Nat),
    let payload := BitVec.ofNat 8 l.number :: BitVec.ofNat 8 loads.length :: loads.flatMap (natBytes 2)
    TakenDirect s p dest payload → s.holdsToken p = true → s.rru.state = .idle → (s.builder l).mode = .open →
    (s.laneSet l).speedU.map Point.x = (s.laneSet l).speedD.map Point.x →
    2 ≤ loads.length → loads.length ≤ 12 → (∀ w ∈ loads, 500 ≤ w ∧ w ≤ 30000) →
    ∃ t, exec (.startRun p dest payload) s = .next t ∧
      t.rru.state = .armed ∧ t.rru.owner = some p ∧ t.rru.lane = some l ∧ t.rru.loads = loads ∧
      t.rru.points.map (fun k => ⟨k.x, k.yU⟩) = (s.laneSet l).speedU ∧
      t.rru.points.map (fun k => ⟨k.x, k.yD⟩) = (s.laneSet l).speedD ∧
      (∀ k ∈ t.rru.points, k.count = 0 ∧ k.sumU = 0 ∧ k.sumD = 0) ∧
      t.rru.pass = none ∧ t.rru.passes = [] ∧ t.rru.skipped = 0 ∧ t.rru.armed = some 0 ∧ t.rru.pendTimer = none ∧
      t.rru.result = .none ∧ Answered s t p dest 19 payload .ok [] ∧ t.sst = LeaseRestarted p s.sst ∧
      AgreeOutside [.rru, .port, .sst] s t) ∧
  (∀ (s : State) (p : Port) (dest : Byte) (payload : List Byte), TakenDirect s p dest payload → s.holdsToken p = true →
    let lane := field payload 0 1
    let axles := field payload 1 1
    let load (k : Nat) : Nat := field payload (2 + 2 * k) 2
    2 ≤ payload.length → payload.length = 2 + 2 * axles →
    ∃ t, exec (.startRun p dest payload) s = .next t ∧
      (s.rru.state ≠ .idle → OnlyAnswered s t p dest 19 payload .busy []) ∧
      (s.rru.state = .idle →
        (lane < 1 ∨ 3 < lane ∨ axles < 2 ∨ 12 < axles ∨ (∃ k, k < axles ∧ (load k < 500 ∨ 30000 < load k)) ∨
          ∃ l, lane = l.number ∧ ((s.builder l).mode = .closed ∨
            (s.laneSet l).speedU.map Point.x ≠ (s.laneSet l).speedD.map Point.x)) →
        OnlyAnswered s t p dest 19 payload .invalid []))

/-- ACCEPT PASS naming the pending pass: it joins the accepted passes with its two pass ratios, each the mean, rounded half up, of the
axle ratios static load × 4,096 / row load, each rounded half up; the ratios join the sums of the speed point whose x lies nearest the
speed, of two at equal distance the lower-numbered; and the run is FULL at the sixteenth, otherwise ARMED with its timer at 0. REJECT PASS
naming it: discarded, ARMED. Either is refused INVALID, with nothing else changed, unless the unit is PENDING and the number is that of
the pending pass (R134, R135). -/
def Obligations.PassAcceptedOrRejected : Prop :=
  (∀ (s : State) (p : Port) (dest : Byte) (payload : List Byte) (k : PendingPass), TakenDirect s p dest payload →
    payload.length = 4 → s.holdsToken p = true → s.rru.state = .pending → s.rru.pass = some k → k.number = field payload 0 4 →
    (∃ t i, exec (.acceptPass p dest payload) s = .next t ∧ (s.rru.points ≠ [] → NearestPoint k.speed s.rru.points i) ∧
      (let ratios (rows : List Nat) : List Nat := (s.rru.loads.zip rows).map fun x => (2 * (x.1 * 4096) + x.2) / (2 * x.2)
       let mean (r : List Nat) : Nat := (2 * r.sum + r.length) / (2 * r.length)
       let u := mean (ratios k.wU)
       let d := mean (ratios k.wD)
       t.rru = { s.rru with
         pass := none, pendTimer := none
         passes := s.rru.passes ++ [⟨k.number, k.speed, i, u, d, k.loads⟩]
         points := s.rru.points.modify i fun x => { x with count := x.count + 1, sumU := x.sumU + u, sumD := x.sumD + d }
         state := if s.rru.passes.length + 1 < 16 then .armed else .full
         armed := if s.rru.passes.length + 1 < 16 then some 0 else none }) ∧
      Answered s t p dest 20 payload .ok [] ∧ t.sst = LeaseRestarted p s.sst ∧ AgreeOutside [.rru, .port, .sst] s t) ∧
    (∃ t, exec (.rejectPass p dest payload) s = .next t ∧
      t.rru = { s.rru with pass := none, pendTimer := none, state := .armed, armed := some 0 } ∧
      Answered s t p dest 21 payload .ok [] ∧ t.sst = LeaseRestarted p s.sst ∧ AgreeOutside [.rru, .port, .sst] s t)) ∧
  (∀ (s : State) (p : Port) (dest : Byte) (payload : List Byte), TakenDirect s p dest payload → payload.length = 4 →
    s.holdsToken p = true → (s.rru.state ≠ .pending ∨ ∀ k, s.rru.pass = some k → k.number ≠ field payload 0 4) →
    (∃ t, exec (.acceptPass p dest payload) s = .next t ∧ OnlyAnswered s t p dest 20 payload .invalid []) ∧
    (∃ t, exec (.rejectPass p dest payload) s = .next t ∧ OnlyAnswered s t p dest 21 payload .invalid []))

/-- APPLY RUN in a run with passes writes the proposals, each point's present y times its mean ratio over 4,096, rounded and kept within
2,048 and 8,191, or that y where no pass was accepted, into the holder's working copy and ends the run APPLIED, without touching the
active image; END RUN ends a run CANCELLED. In IDLE both are refused INVALID, and APPLY RUN where no pass was accepted, with nothing else
changed (R137 to R139). The pending timer's 2,400,000th strobe rejects the pending pass; the armed timer's 14,400,000th ends the run with
TIMEOUT (R135, R136). -/
def Obligations.RunEnds : Prop :=
  (∀ (s : State) (p : Port) (dest : Byte) (e : EditSession) (l : Lane), TakenDirect s p dest [] → s.sst.edit = some e →
      e.holder = p → s.rru.state ≠ .idle → s.rru.lane = some l →
      (s.rru.passes ≠ [] → ∃ t, exec (.applyRun p dest []) s = .next t ∧
        t.rru = { s.rru with state := .idle, pass := none, pendTimer := none, armed := none, result := .applied } ∧
        t.sst = { s.sst with edit := some { e with lease := 0, working := { e.working with
          lane := e.working.lane.set l { e.working.lane.get l with
            speedU := s.rru.points.map fun k => ⟨k.x, ProposedY k.yU k.sumU k.count⟩
            speedD := s.rru.points.map fun k => ⟨k.x, ProposedY k.yD k.sumD k.count⟩ } } } } ∧
        Answered s t p dest 23 [] .ok [] ∧ AgreeOutside [.rru, .port, .sst] s t) ∧
      (∃ t, exec (.endRun p dest []) s = .next t ∧
        t.rru = { s.rru with state := .idle, pass := none, pendTimer := none, armed := none, result := .cancelled } ∧
        Answered s t p dest 24 [] .ok [] ∧ t.sst = LeaseRestarted p s.sst ∧ AgreeOutside [.rru, .port, .sst] s t)) ∧
  (∀ (s : State) (p : Port) (dest : Byte), TakenDirect s p dest [] → s.holdsToken p = true →
    (s.rru.state = .idle ∨ s.rru.passes = [] →
      ∃ t, exec (.applyRun p dest []) s = .next t ∧ OnlyAnswered s t p dest 23 [] .invalid []) ∧
    (s.rru.state = .idle → ∃ t, exec (.endRun p dest []) s = .next t ∧ OnlyAnswered s t p dest 24 [] .invalid [])) ∧
  (∀ s : State, s.rru.state = .pending → s.rru.pendTimer = some 2400000 →
    ∃ t, exec .runPendingTimeout s = .next t ∧
      t.rru = { s.rru with pass := none, pendTimer := none, state := .armed, armed := some 0 } ∧ AgreeOutside [.rru] s t) ∧
  (∀ s : State, s.rru.state = .armed → s.rru.armed = some 14400000 →
    ∃ t, exec .runArmedTimeout s = .next t ∧
      t.rru = { s.rru with state := .idle, pass := none, pendTimer := none, armed := none, result := .timeout } ∧
      AgreeOutside [.rru] s t)

/-! ### Record store -/

/-- RECORD_COMMIT at its grant: the oldest records are removed only while the rest and the new record exceed 32,768 bytes, the
queue's oldest vehicle is appended, the store next number is its number plus one, cursors below the oldest number are raised to
it, and the record commit is the member served last (R143, R145, R154). OVERTAKEN latches at exactly the ports whose cursor was at or
below a removed record's number and whose filter it matches, and every port's level conditions are worked out anew (R145, R147). -/
def Obligations.RecordCommitAppends : Prop :=
  ∀ (s : State) (r : Record) (rest : List Record), s.rst.queue = r :: rest → s.grantee = some .recordCommit →
    recordBytes s.rst.records ≤ 32768 → r.size ≤ 136 →
    ∃ t n, exec .recordCommit s = .next t ∧ t.rst.records = s.rst.records.drop n ++ [r] ∧ recordBytes t.rst.records ≤ 32768 ∧
      (∀ m, m < n → 32768 < recordBytes (s.rst.records.drop m) + r.size) ∧
      t.rst.next = r.number + 1 ∧ t.rst.queue = rest ∧ t.rst.dropped = s.rst.dropped ∧ t.rst.filter = s.rst.filter ∧
      (∀ p, t.rst.cursor.get p = max (((s.rst.records.drop n ++ [r]).head?.map Record.number).getD 0) (s.rst.cursor.get p)) ∧
      (∀ p,
        let overtaken := (s.rst.records.take n).any fun x =>
          decide (s.rst.cursor.get p ≤ x.number) && (s.rst.filter.get p).accepts x
        t.sitePort p = { s.sitePort p with cond := (t.sitePort p).cond } ∧
        (t.sitePort p).cond ||| 0x00E = (s.sitePort p).cond ||| 0x00E ||| (if overtaken then 0x010 else 0) ∧
        LevelsHold t.rst p (t.sitePort p)) ∧
      t.sea = { s.sea with last1 := .recordCommit, engine := .free } ∧ AgreeOutside [.rst, .sea, .port] s t

/-- RELEASE n: at its grant refused INVALID at or above the store next number; answered OK without effect when n + 1 is at or below the
cursor; otherwise the cursor becomes n + 1. No record leaves the store and no other port's cursor moves (R150, R176). That the grant leaves
the calibration-enable level it brought is log 5. -/
def Obligations.ReleaseMovesCursor : Prop :=
  ∀ (s : State) (p : Port) (dest : Byte) (payload : List Byte) (key : Bool), TakenDirect s p dest payload →
    payload.length = 4 → (s.may p).read = true → OnlyWaiter s p →
    let n := field payload 0 4
    ∃ t u, TakenAndGranted (.release p dest payload) key s t u ∧ WaitsForGrant s t p dest 7 payload ∧
      PortServed s u p key ∧ u.sst = LeaseRestarted p s.sst ∧ AgreeOutside [.lines, .rst, .sea, .port, .sst] s u ∧
      (s.rst.next ≤ n → u.rst = s.rst ∧ Answered s u p dest 7 payload .invalid []) ∧
      (n < s.rst.next → n + 1 ≤ s.rst.cursor.get p → u.rst = s.rst ∧ Answered s u p dest 7 payload .ok []) ∧
      (n < s.rst.next → s.rst.cursor.get p < n + 1 →
        u.rst = { s.rst with cursor := s.rst.cursor.set p (n + 1) } ∧
        u.port = s.port.set p (AnsweredPort (levelsAt u.rst p (s.sitePort p)) dest 7 payload .ok []))

/-- SEEK: OLDEST takes the cursor to the oldest number or, with an empty list, the store next number; NEWEST to the store next number;
NUMBER to n when it lies between those two, and is refused INVALID with the cursor unchanged otherwise (R152). A mode above 2 is none of
these: it is refused INVALID when the request is taken, without a wait for the grant (R148, R183). That the grant leaves the
calibration-enable level it brought is log 5. -/
def Obligations.SeekSetsCursor : Prop :=
  (∀ (s : State) (p : Port) (dest mode : Byte) (number : List Byte) (key : Bool), TakenDirect s p dest (mode :: number) →
    number.length = 4 → mode.toNat ≤ 2 → (s.may p).read = true → OnlyWaiter s p →
    let n := field number 0 4
    let oldest := (s.rst.records.head?.map Record.number).getD s.rst.next
    let moved (u : State) (c : Nat) : Prop :=
      u.rst = { s.rst with cursor := s.rst.cursor.set p c } ∧
      u.port = s.port.set p (AnsweredPort (levelsAt u.rst p (s.sitePort p)) dest 8 (mode :: number) .ok [])
    ∃ t u, TakenAndGranted (.seek p dest (mode :: number)) key s t u ∧ WaitsForGrant s t p dest 8 (mode :: number) ∧
      PortServed s u p key ∧ u.sst = LeaseRestarted p s.sst ∧ AgreeOutside [.lines, .rst, .sea, .port, .sst] s u ∧
      (mode = 0 → moved u oldest) ∧ (mode = 1 → moved u s.rst.next) ∧
      (mode = 2 → oldest ≤ n → n ≤ s.rst.next → moved u n) ∧
      (mode = 2 → (n < oldest ∨ s.rst.next < n) →
        u.rst = s.rst ∧ Answered s u p dest 8 (mode :: number) .invalid [])) ∧
  (∀ (s : State) (p : Port) (dest mode : Byte) (number : List Byte), TakenDirect s p dest (mode :: number) →
    number.length = 4 → 2 < mode.toNat → (s.may p).read = true →
    ∃ t, exec (.seek p dest (mode :: number)) s = .next t ∧ OnlyAnswered s t p dest 8 (mode :: number) .invalid [])

/-- SET FILTER without an empty mask replaces the port's filter at its grant and moves no cursor; with an empty mask it is refused
INVALID when taken (R151). That the grant leaves the calibration-enable level it brought is log 5. -/
def Obligations.SetFilterReplaces : Prop :=
  ∀ (s : State) (p : Port) (dest : Byte) (payload : List Byte) (key : Bool), TakenDirect s p dest payload →
    payload.length = 6 → (s.may p).read = true →
    ((filterOf payload).hasEmpty = true → ∃ t, exec (.setFilter p dest payload) s = .next t ∧
      OnlyAnswered s t p dest 9 payload .invalid []) ∧
    ((filterOf payload).hasEmpty = false → OnlyWaiter s p →
      ∃ t u, TakenAndGranted (.setFilter p dest payload) key s t u ∧ WaitsForGrant s t p dest 9 payload ∧
        PortServed s u p key ∧ u.rst = { s.rst with filter := s.rst.filter.set p (filterOf payload) } ∧
        u.port = s.port.set p (AnsweredPort (levelsAt u.rst p (s.sitePort p)) dest 9 payload .ok []) ∧
        u.sst = LeaseRestarted p s.sst ∧ AgreeOutside [.lines, .rst, .sea, .port, .sst] s u)

/-- READ RECORDS changes no record and no cursor. It examines the records at or above the cursor in order, passes over those its filter
does not match and takes the others whole, and stops only before the first matching record that would take it above max bytes, or at the
end of the list; the resume number is one more than the number of the last record examined, or the cursor when none was. The reply is the
count, the resume number and then the records taken, back to back, each in the layout of section 10.3 (R149, R185). A max bytes below 40
or above 1,019 is refused INVALID when the request is taken, without a wait for the grant (R148, R149). That the grant leaves the
calibration-enable level it brought is log 5. -/
def Obligations.ReadRecordsAnswersUnread : Prop :=
  (∀ (s : State) (p : Port) (dest : Byte) (payload : List Byte) (key : Bool), TakenDirect s p dest payload →
    payload.length = 2 → 40 ≤ field payload 0 2 → field payload 0 2 ≤ 1019 → (s.may p).read = true → OnlyWaiter s p →
    let unread := s.rst.records.filter fun r => decide (s.rst.cursor.get p ≤ r.number)
    let accepts := (s.rst.filter.get p).accepts
    ∃ t u k answer, TakenAndGranted (.readRecords p dest payload) key s t u ∧ WaitsForGrant s t p dest 6 payload ∧
      PortServed s u p key ∧ k ≤ unread.length ∧
      (let taken := (unread.take k).filter accepts
       let resume := ((unread.take k).getLast?.map fun r => r.number + 1).getD (s.rst.cursor.get p)
       recordBytes taken ≤ field payload 0 2 ∧
       (∀ r, unread[k]? = some r → accepts r = true ∧ field payload 0 2 < recordBytes taken + r.size) ∧
       Answered s u p dest 6 payload .ok answer ∧ answer.length = 5 + recordBytes taken ∧
       CarriesNat answer 0 1 taken.length ∧ CarriesNat answer 1 4 resume ∧
       ∀ n r, taken[n]? = some r → RecordAt answer (5 + recordBytes (taken.take n)) r) ∧
      u.sst = LeaseRestarted p s.sst ∧ AgreeOutside [.lines, .sea, .port, .sst] s u) ∧
  (∀ (s : State) (p : Port) (dest : Byte) (payload : List Byte), TakenDirect s p dest payload → payload.length = 2 →
    (field payload 0 2 < 40 ∨ 1019 < field payload 0 2) → (s.may p).read = true →
    ∃ t, exec (.readRecords p dest payload) s = .next t ∧ OnlyAnswered s t p dest 6 payload .invalid [])

/-- READ STATUS answers 182 bytes that hold the state at its grant, field by field, and changes nothing but the port, the holder's lease,
the arbiter's memory and the calibration-enable level that the grant brought, which is kept by log 5 (R21, R41, R72, R119, R156, R170, R182;
the draw counter of free bytes is the model's own, log 8, and the codes of truth values are log 39). -/
def Obligations.ReadStatusAnswers : Prop :=
  ∀ (s : State) (p : Port) (dest : Byte) (key : Bool), TakenDirect s p dest [] → (s.may p).read = true → OnlyWaiter s p →
    ∃ t u answer, TakenAndGranted (.readStatus p dest []) key s t u ∧ WaitsForGrant s t p dest 2 [] ∧ PortServed s u p key ∧
      Answered s u p dest 2 [] .ok answer ∧ answer.length = 182 ∧
      (let nat (offset k n : Nat) : Prop := CarriesNat answer offset k n
       let bool (offset : Nat) (b : Bool) : Prop := CarriesBool answer offset b
       nat 0 1 s.sck.timeState.code ∧ nat 1 4 s.sck.time.sec.toNat ∧ nat 5 4 s.sck.time.us ∧ Carries answer 9 (intBytes 4 s.sck.trim) ∧
       Carries answer 13 (intBytes 4 s.sck.lastError) ∧ nat 17 2 s.sck.unmarked ∧ nat 19 4 s.sck.scan.toNat ∧
       nat 23 1 s.slr.state.code ∧ nat 24 1 s.site.linkMode.code ∧ nat 25 1 s.slr.occ ∧
       nat 26 1 ((if s.slr.margin1 then 1 else 0) + if s.slr.margin2 then 2 else 0) ∧ nat 27 2 s.slr.slips ∧
       (∀ c, nat (29 + 3 * c.index) 1 (s.conditioner c).state.code ∧
         Carries answer (30 + 3 * c.index) (intBytes 2 ((s.conditioner c).b64 / 64))) ∧
       (∀ l,
         let f := s.former l
         let b := s.builder l
         let at' := 65 + 7 * (l.number - 1)
         let lane := 86 + 6 * (l.number - 1)
         nat at' 1 (f.miss.get .u .left) ∧ nat (at' + 1) 1 (f.miss.get .u .right) ∧ nat (at' + 2) 1 (f.miss.get .d .left) ∧
         nat (at' + 3) 1 (f.miss.get .d .right) ∧
         nat (at' + 4) 1 ((if 32 ≤ f.miss.get .u .left then 1 else 0) + (if 32 ≤ f.miss.get .u .right then 2 else 0) +
           (if 32 ≤ f.miss.get .d .left then 4 else 0) + if 32 ≤ f.miss.get .d .right then 8 else 0) ∧
         nat (at' + 5) 1 f.upstream.length ∧
         nat (at' + 6) 1 ((Channel.all.filter fun c => decide (c.lane = l) && s.slot c != .empty).length) ∧
         bool lane b.present ∧ bool (lane + 1) b.loopFault ∧ nat (lane + 2) 1 b.mode.code ∧ nat (lane + 3) 1 b.ctx.state.code ∧
         nat (lane + 4) 1 b.ctx.axles.length ∧ bool (lane + 5) b.pulse.isSome) ∧
       nat 104 4 s.vehicleNumber ∧ nat 108 2 s.rst.records.length ∧ nat 110 2 (recordBytes s.rst.records) ∧
       nat 112 4 ((s.rst.records.head?.map Record.number).getD 0) ∧ nat 116 4 s.rst.next ∧ nat 120 1 s.rst.queue.length ∧
       nat 121 2 s.rst.dropped ∧
       (∀ q : Port,
         let at' := 123 + 12 * (q.number - 1)
         nat at' 4 (s.rst.cursor.get q) ∧
         nat (at' + 4) 2 (recordBytes (s.rst.records.filter fun r => decide (s.rst.cursor.get q ≤ r.number))) ∧
         nat (at' + 6) 1 (s.rst.filter.get q).lanes.toNat ∧ nat (at' + 7) 4 (s.rst.filter.get q).classes.toNat ∧
         nat (at' + 11) 1 (s.rst.filter.get q).verdicts.toNat) ∧
       nat 159 1 s.site.arbiterMode.code ∧ nat 160 4 s.generation.toNat ∧ nat 164 1 s.sst.settingsState.code ∧
       nat 165 1 ((s.sst.edit.map fun e => e.holder.number).getD 0) ∧
       (∀ e, s.sst.edit = some e → nat 166 1 ((960000 - if e.holder = p then 0 else e.lease) / 8000)) ∧
       nat 167 1 s.sst.prog.step ∧ bool 168 s.sst.storeFault ∧ bool 169 key ∧
       nat 170 2 (s.sitePort p).cond.toNat ∧ nat 172 2 (s.sitePort p).enables.toNat ∧ nat 174 2 (s.sitePort p).details.toNat ∧
       nat 176 2 (s.sitePort p).framingErrors ∧ nat 178 2 (s.sitePort p).crcErrors ∧ nat 180 2 (s.sitePort p).overruns) ∧
      u.sst = LeaseRestarted p s.sst ∧ AgreeOutside [.lines, .sea, .port, .sst, .freeCount] s u

/-- The arbiter's choice among all that wait. A free engine goes to the waiting member that comes first in the cyclic order after the
last served; within the port group to the waiting port that comes first after the last served, or with FIXED from port A; that member and
port become the last served. A grant command of any other member, or while the engine is granted, does nothing but read the level of the
calibration-enable line where it carries it. The ports not chosen wait on (R153, R154, R155, R166). That the decision is made at the
grant's command, and that a grant command of a member not chosen does nothing, is the model's choice (logs 1 and 22); so is the level it
leaves (log 5). -/
def Obligations.ArbiterChooses : Prop :=
  (∀ (s : State) (m : Member), s.grantee = some m ↔ NextMember s m) ∧
  (∀ (s : State) (key : Bool) (p : Port), NextMember s .portGroup → NextPort s p →
    ∃ t, exec (.portGrantExecute key) s = .next t ∧ t.sea = ⟨.portGroup, p, .free⟩ ∧ (t.sitePort p).state = .reply ∧
      (t.sitePort p).driving = false ∧ (∀ q, q ≠ p → (t.sitePort q).state = (s.sitePort q).state ∧ (t.sitePort q).rx = (s.sitePort q).rx)) ∧
  (∀ s : State, NextMember s .recordCommit →
    ∃ t, exec .recordCommit s = .next t ∧ t.sea = { s.sea with last1 := .recordCommit, engine := .free }) ∧
  (∀ s : State, NextMember s .settingsEngine →
    ∃ t, exec .programmingStep s = .next t ∧ t.sea = { s.sea with last1 := .settingsEngine, engine := .free }) ∧
  (∀ (s : State) (key : Bool),
    (¬ NextMember s .recordCommit → exec .recordCommit s = .next s) ∧
    (¬ NextMember s .settingsEngine → exec .programmingStep s = .next s) ∧
    (¬ NextMember s .portGroup → exec (.portGrantExecute key) s = .next (s.withKey key)))

/-! ### Settings -/

/-- COMMIT from the holder at its grant: BUSY while programming runs; otherwise INVALID with the first cross-item failure, the curves, and
the failures of one check, being taken in the order of log 20; otherwise DENIED with the detail PROTECTED for a protected difference without
the key; otherwise OK without effect on the images for a working copy equal to the settings in use. A COMMIT whose port no longer holds the
token at the grant is refused NOT_HOLDER; that this holds while programming runs too, where R179's first check gives BUSY and no rule orders
the two, is the model's choice (log 42). The grant leaves the calibration-enable level it brought (log 5). The cross-item checks are those
of the table of section 9.3, curves with ascending x, T_off at most T_on, the tap sum, the windows of the rules in force and two different
probes, each naming its item; the protected items, and the lanes they belong to, are those of R178 and the settings tables (R39, R71, R86,
R108, R167, R176, R178, R179, R184, R186). -/
def Obligations.CommitChecksInOrder : Prop :=
  (∀ (s : State) (p : Port) (dest : Byte) (key : Bool) (e : EditSession), TakenDirect s p dest [] → OnlyWaiter s p →
    s.sst.edit = some e → e.holder = p →
    ∃ t u, TakenAndGranted (.commit p dest []) key s t u ∧ WaitsForGrant s t p dest 17 [] ∧ PortServed s u p key ∧
      (let only (st : Status) (answer : List Byte) : Prop :=
         Answered s u p dest 17 [] st answer ∧ u.sst = LeaseRestarted p s.sst ∧ AgreeOutside [.lines, .sea, .port, .sst] s u
       (s.sst.prog ≠ .idle → only .busy []) ∧
       (s.sst.prog = .idle → ∀ id index, firstFailure (crossChecks e.working) = some (id, index) →
         only .invalid (natBytes 2 id ++ natBytes 1 index)) ∧
       (s.sst.prog = .idle → firstFailure (crossChecks e.working) = none →
         (protectedDiffers s.settings e.working = true → key = false → only .denied [1]) ∧
         (e.working = s.settings → only .ok (natBytes 4 s.generation.toNat))))) ∧
  (∀ (s : State) (p : Port) (dest : Byte) (key : Bool), OnlyWaiter s p → (s.sitePort p).state = .execute →
    (s.sitePort p).rx = buildFrame dest 17 [] → s.holdsToken p = false →
    ∃ u, exec (.portGrantExecute key) s = .next u ∧ PortServed s u p key ∧
      u.port = s.port.set p { s.sitePort p with
        state := .reply, reply := replyFrame dest .notHolder [], driving := false, sentBits := 0 } ∧
      AgreeOutside [.lines, .sea, .port] s u) ∧
  (∀ cfg : Settings, (∀ id index, firstFailure (crossChecks cfg) = some (id, index) ↔ FirstFailing cfg id index) ∧
    (firstFailure (crossChecks cfg) = none ↔ ∀ order id index, ¬ CheckFails cfg order id index)) ∧
  (∀ old new : Settings, (∀ l, laneAffected old new l = true ↔ LaneItemChanged old new l) ∧
    (protectedDiffers old new = true ↔ ProtectedItemChanged old new))

/-- COMMIT applied: every settings item of the working copy in use, the drift factors kept, the generation up by one exactly when a
protected item changed, programming started with the image then in use, the token and the working copy kept, and the reply OK, or
STORE_FAULT when the mark was set, with the generation. Builders, conditioners, miss counts, monitor, trackers and run are told of it
(R40, R68, R88, R103, R129, R139). Each other port takes its line rate, at once in LISTEN (R164), and this one keeps the rate it answers at.
The link is as it was where its mode is unchanged or it is DOWN, searches anew in ALIGNING, and leaves RUNNING for ALIGNING with the
consequences of a loss, which the blocks take after the commit (R20, R179 to R181, R184). That the image changes before the blocks are
told, and that the loss comes last, is log 16; that the stored image does not agree from the start of programming log 7; that the generation
wraps log 21; the others are logs 11, 13, 31, 36, 37 and 41. -/
def Obligations.CommitApplies : Prop :=
  ∀ (s : State) (p : Port) (dest : Byte) (key : Bool) (e : EditSession), TakenDirect s p dest [] → OnlyWaiter s p →
    s.sst.edit = some e → e.holder = p → s.sst.prog = .idle → firstFailure (crossChecks e.working) = none →
    (protectedDiffers s.settings e.working = true → key = true) → e.working ≠ s.settings →
    ∃ t u, TakenAndGranted (.commit p dest []) key s t u ∧ WaitsForGrant s t p dest 17 [] ∧
      u.sst.active = { s.sst.active with
        settings := e.working
        generation := if protectedDiffers s.settings e.working then s.generation + 1 else s.generation } ∧
      u.sst.edit = some { e with lease := 0 } ∧ u.sst.prog = .ready 1 u.sst.active ∧ u.sst.nvGood = false ∧
      u.sst.storeFault = s.sst.storeFault ∧ u.sst.settingsState = s.sst.settingsState ∧
      (u.sitePort p).state = .reply ∧
      (u.sitePort p).reply = replyFrame dest (if s.sst.storeFault then .storeFault else .ok) (natBytes 4 u.generation.toNat) ∧
      (∀ q, q ≠ p → RateRetold (e.working.port.get q).rate (s.sitePort q) (u.sitePort q)) ∧
      (u.sitePort p).rate = (s.sitePort p).rate ∧
      (let mode := e.working.site.linkMode
       (mode = s.site.linkMode ∨ s.slr.state = .down → u.slr = s.slr) ∧
       (mode ≠ s.site.linkMode → s.slr.state = .aligning → u.slr = { s.slr with halfMarker := false }) ∧
       (mode = s.site.linkMode ∨ s.slr.state ≠ .running → BlocksRetold s.settings e.working s u) ∧
       (mode ≠ s.site.linkMode → s.slr.state = .running →
         u.slr = { s.slr with
           state := .aligning, buf := List.replicate 16 .empty, occ := 0, slipPending := false, partialScan := [], halfMarker := false
           lastScan := none } ∧
         ∃ m, BlocksRetold s.settings e.working s m ∧ m.sst.active = u.sst.active ∧ s.rst.queue <+: m.rst.queue ∧
           m.rst.queue.length ≤ s.rst.queue.length + 3 ∧ m.vehicleNumber ≤ s.vehicleNumber + 3 ∧ DataPathEmptied m u)) ∧
      u.sck = s.sck ∧ u.pending = s.pending

/-- CLAIM EDIT from a port with EDIT: a FREE token is taken with a working copy of the settings in use and the lease at 0; the
holder's own keeps its working copy; another port's is refused BUSY with its number. RELEASE EDIT from the holder frees the token
and ends a run ABORTED. The 960,000th strobe of the lease frees it too, and latches EDIT_LOST at the former holder alone (R176,
R184, R139). -/
def Obligations.TokenClaimedReleasedExpired : Prop :=
  (∀ (s : State) (p : Port) (dest : Byte), TakenDirect s p dest [] →
      ((s.may p).edit = true → ∃ t, exec (.claimEdit p dest []) s = .next t ∧
        (s.sst.edit = none → t.sst = { s.sst with edit := some ⟨p, 0, s.settings⟩ } ∧ Answered s t p dest 13 [] .ok [] ∧
          AgreeOutside [.port, .sst] s t) ∧
        (∀ e, s.sst.edit = some e → e.holder = p → OnlyAnswered s t p dest 13 [] .ok []) ∧
        (∀ e, s.sst.edit = some e → e.holder ≠ p →
          OnlyAnswered s t p dest 13 [] .busy [BitVec.ofNat 8 e.holder.number])) ∧
      (s.holdsToken p = true → ∃ t, exec (.releaseEdit p dest []) s = .next t ∧ t.sst = { s.sst with edit := none } ∧
        (s.rru.state = .idle → t.rru = s.rru) ∧
        (s.rru.state ≠ .idle → t.rru = { s.rru with
          state := .idle, pass := none, pendTimer := none, armed := none, result := .aborted }) ∧
        Answered s t p dest 14 [] .ok [] ∧ AgreeOutside [.port, .sst, .rru] s t)) ∧
  (∀ (s : State) (e : EditSession), s.sst.edit = some e → e.lease = 960000 →
      ∃ t, exec .editTokenExpiry s = .next t ∧ t.sst = { s.sst with edit := none } ∧
        t.port = s.port.set e.holder ((s.sitePort e.holder).latch .editLost) ∧
        (s.rru.state = .idle → t.rru = s.rru) ∧
        (s.rru.state ≠ .idle → t.rru = { s.rru with
          state := .idle, pass := none, pendTimer := none, armed := none, result := .aborted }) ∧
        AgreeOutside [.port, .sst, .rru] s t)

/-- WRITE SETTING from the holder replaces the item in the working copy when the value lies in the item's range, and is refused INVALID
for an unknown item or a value out of range with the working copy unchanged; DISCARD makes the working copy again from the settings in
use (R20, R39, R71, R86, R108, R118, R121, R155, R173, R177; the one-byte codes and the length of an unknown item are log 17). READ
SETTING with READ answers the item as the settings in use hold it, or as the holder's working copy does; a source above 1 and an unknown
item are INVALID, WORKING for any other port is NOT_HOLDER whatever the item, and nothing is changed (R177; the order of these checks is
the model's choice, log 18). -/
def Obligations.WorkingCopyEditedAndRead : Prop :=
  (∀ (s : State) (p : Port) (dest : Byte) (payload : List Byte) (e : EditSession), s.sst.edit = some e → e.holder = p →
    (TakenDirect s p dest payload → writeSettingLength payload = true →
      ∃ t, exec (.writeSetting p dest payload) s = .next t ∧
        (∀ i, Item.ofId? (field payload 0 2) (field payload 2 1) = some i →
          (InRange (payload.drop 3) i → ∃ w, writeItem (payload.drop 3) e.working i = some w ∧
            t.sst = { s.sst with edit := some { e with lease := 0, working := w } } ∧
            Answered s t p dest 16 payload .ok [] ∧ AgreeOutside [.port, .sst] s t) ∧
          (¬ InRange (payload.drop 3) i → OnlyAnswered s t p dest 16 payload .invalid [])) ∧
        (Item.ofId? (field payload 0 2) (field payload 2 1) = none → OnlyAnswered s t p dest 16 payload .invalid [])) ∧
    (TakenDirect s p dest [] → ∃ t, exec (.discard p dest []) s = .next t ∧
      t.sst = { s.sst with edit := some { e with lease := 0, working := s.settings } } ∧
      Answered s t p dest 18 [] .ok [] ∧ AgreeOutside [.port, .sst] s t)) ∧
  (∀ (s : State) (p : Port) (dest a b index source : Byte), TakenDirect s p dest [a, b, index, source] → (s.may p).read = true →
    let payload := [a, b, index, source]
    let item := Item.ofId? (a.toNat * 256 + b.toNat) index.toNat
    ∃ t, exec (.readSetting p dest payload) s = .next t ∧
      (∀ i, item = some i → source = 0 → OnlyAnswered s t p dest 15 payload .ok (readItem s.settings i)) ∧
      (∀ i e, item = some i → source = 1 → s.sst.edit = some e → e.holder = p →
        OnlyAnswered s t p dest 15 payload .ok (readItem e.working i)) ∧
      (source = 1 → s.holdsToken p = false → OnlyAnswered s t p dest 15 payload .notHolder []) ∧
      (item = none → source = 0 ∨ source = 1 ∧ s.holdsToken p = true → OnlyAnswered s t p dest 15 payload .invalid []) ∧
      (1 < source.toNat → OnlyAnswered s t p dest 15 payload .invalid []))

/-- A value of the right length that WRITE SETTING takes reads back byte for byte, **port privileges** apart, whose undefined bits are
dropped; and every other item named by an id and index reads as before (R177, R183, R186; the one-byte codes of enumerated items are log
17). -/
def Obligations.WrittenSettingReadsBack : Prop :=
  ∀ (cfg w : Settings) (id index : Nat) (i : Item) (v : List Byte), cfg.rules.length = 32 → Item.ofId? id index = some i →
    valueLengthOk id v = true → writeItem v cfg i = some w →
    (id ≠ 134 → readItem w i = v) ∧
    ∀ id' index' j, Item.ofId? id' index' = some j → j ≠ i → readItem w j = readItem cfg j

/-- PROGRAMMING_STEP at its grant begins the writing of the step that is ready; a good verify makes the next step ready, the
sixteenth stores the snapshot, clears the fault mark and makes the settings VALID; a failed one stops programming, sets the mark and
latches "store fault" at every port (R154, R181). That the stored image changes as a whole, with its CRC, at the sixteenth is the model's
choice (log 7). -/
def Obligations.ProgrammingRuns : Prop :=
  (∀ (s : State) (n : Nat) (m : Image), s.sst.prog = .ready n m → s.grantee = some .settingsEngine →
    ∃ t, exec .programmingStep s = .next t ∧ t.sst = { s.sst with prog := .writing n m } ∧
      t.sea = { s.sea with last1 := .settingsEngine, engine := .free } ∧ AgreeOutside [.sst, .sea] s t) ∧
  (∀ (s : State) (n : Nat) (m : Image) (verified : Bool), s.sst.prog = .writing n m →
    ∃ t, exec (.programmingWriteDone verified) s = .next t ∧
      (verified = true → n < 16 → t.sst = { s.sst with prog := .ready (n + 1) m } ∧ t.port = s.port) ∧
      (verified = true → n = 16 →
        t.sst = { s.sst with nv := m, nvGood := true, prog := .idle, storeFault := false, settingsState := .valid } ∧
        t.port = s.port) ∧
      (verified = false → t.sst = { s.sst with prog := .idle, storeFault := true } ∧
        ∀ p, t.sitePort p = (s.sitePort p).latchDetail .storeFault) ∧
      AgreeOutside [.sst, .port] s t)

/-! ### Requests without a grant -/

/-- TIME MARK with TIME sets the pending mark in every time state and is answered OK; TIME SET with TIME sets site time in UNSET and
SET, is refused INVALID above 999,999 µs in every state, and otherwise DENIED in LOCKED and HOLDOVER (R5, R9). A broadcast or group
TIME MARK sets the mark too and is answered to no one, and the port is back in LISTEN; one whose check fails, a payload not of 4 bytes or a
port without TIME, leaves the port in LISTEN and has no other effect (R5, R165, R183). -/
def Obligations.TimeMarkedAndSet : Prop :=
  (∀ (s : State) (p : Port) (dest : Byte) (payload : List Byte), TakenDirect s p dest payload → (s.may p).time = true →
      (payload.length = 4 → ∃ t, exec (.timeMark p dest payload) s = .next t ∧
        t.sck = { s.sck with mark := some ⟨BitVec.ofNat 32 (field payload 0 4), 0⟩ } ∧
        Answered s t p dest 10 payload .ok [] ∧ t.sst = LeaseRestarted p s.sst ∧ AgreeOutside [.sck, .port, .sst] s t) ∧
      (payload.length = 8 → ∃ t, exec (.timeSet p dest payload) s = .next t ∧
        (999999 < field payload 4 4 → OnlyAnswered s t p dest 11 payload .invalid []) ∧
        (field payload 4 4 ≤ 999999 → (s.sck.timeState = .locked ∨ s.sck.timeState = .holdover) →
          OnlyAnswered s t p dest 11 payload .denied []) ∧
        (field payload 4 4 ≤ 999999 → (s.sck.timeState = .unset ∨ s.sck.timeState = .set) →
          t.sck = { s.sck with
            time := ⟨BitVec.ofNat 32 (field payload 0 4), field payload 4 4⟩, timeState := .set } ∧
          Answered s t p dest 11 payload .ok [] ∧ t.sst = LeaseRestarted p s.sst ∧ AgreeOutside [.sck, .port, .sst] s t))) ∧
  (∀ (s : State) (p : Port) (dest : Byte) (payload : List Byte), (s.sitePort p).takes = true → payload.length = 4 →
      (s.addressee p dest = .broadcast ∨ s.addressee p dest = .group) → (s.may p).time = true →
      ∃ t, exec (.timeMark p dest payload) s = .next t ∧
        t.sck = { s.sck with mark := some ⟨BitVec.ofNat 32 (field payload 0 4), 0⟩ } ∧
        t.port = s.port.set p ((s.sitePort p).listening (s.portSet p).rate) ∧ AgreeOutside [.sck, .port] s t) ∧
  (∀ (s : State) (p : Port) (dest : Byte) (payload : List Byte), (s.sitePort p).takes = true → payload.length ≤ 1024 →
      (s.addressee p dest = .broadcast ∨ s.addressee p dest = .group) → (payload.length ≠ 4 ∨ (s.may p).time = false) →
      ∃ t, exec (.timeMark p dest payload) s = .next t ∧
        t.port = s.port.set p ((s.sitePort p).listening (s.portSet p).rate) ∧ AgreeOutside [.port] s t)

/-- IDENTIFY, READ TEMPERATURES, READ DRIFT and READ RUN (the last three with READ) are answered OK with 26, 60, 79 and
112 + 39 × passes + 15 × points bytes that hold the state field by field, and change nothing but the port and the holder's lease (R89,
R130, R137, R171; the draw counter of free bytes is the model's own, log 8, and the codes of truth values are log 39; that a
speed point is shown counted from 1, the owner as 1 to 3, and the proposals worked from the y values kept since START RUN, is log 19). -/
def Obligations.ReadsAnswerAndChangeNothing : Prop :=
  ∀ (s : State) (p : Port) (dest : Byte), TakenDirect s p dest [] →
    (let reads (i : Instr) (code : Byte) (n : Nat) (holds : List Byte → Prop) : Prop :=
       ∃ t answer, exec i s = .next t ∧ Answered s t p dest code [] .ok answer ∧ answer.length = n ∧ holds answer ∧
         t.sst = LeaseRestarted p s.sst ∧ AgreeOutside [.port, .sst, .freeCount] s t
     reads (.identify p dest []) 1 26 (fun a =>
       Carries a 0 [76, 111, 117, 115, 116, 114, 97, 110, 69, 108, 119, 111, 120, 32, 65, 87, 51] ∧
       CarriesNat a 17 1 1 ∧ CarriesNat a 18 1 s.site.unitAddress ∧ CarriesNat a 19 1 (64 + p.number) ∧ CarriesNat a 20 1 s.startCause.code ∧
       CarriesNat a 21 1 s.sst.settingsState.code ∧ CarriesNat a 22 4 s.generation.toNat) ∧
     ((s.may p).read = true →
       reads (.readTemperatures p dest []) 5 60 (fun a =>
         (∀ k : Probe,
           let q := s.ptm.probe.get k
           let at' := 10 * k.number
           CarriesNat a at' 1 q.state.code ∧ CarriesNat a (at' + 1) 1 ((q.last.map fun r => r.cls.code).getD 0) ∧
           (∀ r, q.last = some r → CarriesNat a (at' + 2) 2 r.raw) ∧ Carries a (at' + 4) (intBytes 2 (q.f.getD (-32768))) ∧
           CarriesNat a (at' + 6) 1 q.good ∧ CarriesNat a (at' + 7) 1 q.badOpen ∧ CarriesNat a (at' + 8) 1 q.badShort ∧
           CarriesNat a (at' + 9) 1 q.spikes) ∧
         (∀ l,
           let k := s.laneTemp l
           let at' := 40 + 6 * (l.number - 1)
           Carries a at' (intBytes 2 k.value) ∧ CarriesNat a (at' + 2) 1 k.reported.code ∧
           CarriesNat a (at' + 3) 2 (if k.source = .held then k.held / 8000 else 0) ∧
           CarriesNat a (at' + 5) 1 ((if k.frost then 1 else 0) + if k.hot then 2 else 0)) ∧
         CarriesNat a 58 2 s.ptm.discards) ∧
       reads (.readDrift p dest []) 25 79 (fun a =>
         (∀ l,
           let k := s.tracker l
           let at' := 25 * (l.number - 1)
           CarriesNat a at' 1 (s.laneSet l).driftMode.code ∧
           CarriesBool a (at' + 1) ((s.laneSet l).driftMode == .auto && !s.site.autoDrift) ∧
           CarriesNat a (at' + 2) 2 (s.sst.active.drift.get l) ∧ CarriesNat a (at' + 4) 1 k.window.length ∧
           CarriesBool a (at' + 5) k.last.isSome ∧
           (∀ e, k.last = some e → CarriesNat a (at' + 6) 2 e.mean ∧ CarriesNat a (at' + 8) 4 e.ratio ∧
             CarriesNat a (at' + 12) 4 e.unlimited ∧ CarriesNat a (at' + 16) 2 e.limited) ∧
           CarriesNat a (at' + 18) 2 (k.proposal.getD 0) ∧ CarriesNat a (at' + 20) 1 ((k.app.map fun x => x.kind.code).getD 0) ∧
           (∀ x, k.app = some x → CarriesNat a (at' + 21) 2 x.value) ∧ CarriesNat a (at' + 23) 2 k.evals) ∧
         CarriesNat a 75 4 s.generation.toNat) ∧
       reads (.readRun p dest []) 22 (112 + 39 * s.rru.passes.length + 15 * s.rru.points.length) (fun a =>
         let u := s.rru
         let points := 112 + 39 * u.passes.length
         CarriesNat a 0 1 u.state.code ∧ CarriesNat a 1 1 ((u.owner.map Port.number).getD 0) ∧
         CarriesNat a 2 1 ((u.lane.map Lane.number).getD 0) ∧ CarriesNat a 3 1 u.result.code ∧ CarriesNat a 4 1 u.loads.length ∧
         (∀ k, k < 12 → CarriesNat a (5 + 2 * k) 2 (u.loads.getD k 0)) ∧ CarriesBool a 29 u.pass.isSome ∧
         (u.pass = none → Carries a 30 (List.replicate 78 0)) ∧
         (∀ x, u.pass = some x → CarriesNat a 30 4 x.number ∧ CarriesNat a 34 2 x.speed ∧
           ∀ k w, k < 12 → (x.loads[k]? = some w → CarriesNat a (36 + 2 * k) 2 w) ∧
             (x.wU[k]? = some w → CarriesNat a (60 + 2 * k) 2 w) ∧ (x.wD[k]? = some w → CarriesNat a (84 + 2 * k) 2 w)) ∧
         CarriesNat a 108 2 u.skipped ∧ CarriesNat a 110 1 u.passes.length ∧ CarriesNat a 111 1 u.points.length ∧
         (∀ n x, u.passes[n]? = some x → CarriesNat a (112 + 39 * n) 4 x.number ∧ CarriesNat a (116 + 39 * n) 2 x.speed ∧
           CarriesNat a (118 + 39 * n) 1 (x.point + 1) ∧ CarriesNat a (119 + 39 * n) 4 x.ratioU ∧
           CarriesNat a (123 + 39 * n) 4 x.ratioD ∧
           ∀ k w, k < 12 → x.loads[k]? = some w → CarriesNat a (127 + 39 * n + 2 * k) 2 w) ∧
         (∀ n x, u.points[n]? = some x → Carries a (points + 15 * n) (intBytes 2 x.x) ∧ CarriesNat a (points + 15 * n + 2) 1 x.count ∧
           CarriesNat a (points + 15 * n + 3) 4 (if x.count = 0 then 0 else (2 * x.sumU + x.count) / (2 * x.count)) ∧
           CarriesNat a (points + 15 * n + 7) 4 (if x.count = 0 then 0 else (2 * x.sumD + x.count) / (2 * x.count)) ∧
           Carries a (points + 15 * n + 11) (intBytes 2 (ProposedY x.yU x.sumU x.count)) ∧
           Carries a (points + 15 * n + 13) (intBytes 2 (ProposedY x.yD x.sumD x.count))))))

/-- A direct request whose payload has a length its row does not allow is refused INVALID; one whose length is allowed is refused DENIED
without the privilege it needs, and NOT_HOLDER without the token it needs; a direct request with a code 0 or from 29 to 255 is refused
UNKNOWN whatever its payload; each with nothing changed but the port and the holder's lease. A broadcast or group request with any other
code than TIME MARK and LANE MODE is not executed: the port is back in LISTEN, with nothing else changed. DRIFT APPLY and DRIFT RESET
besides bring the level of the calibration-enable line (R165, R166, R176, R177, R179, R183). That a WRITE SETTING of an
unknown item has a length that is allowed, and so is refused NOT_HOLDER, is log 17; that a refused DRIFT APPLY or DRIFT RESET leaves the
level it brought is log 5. -/
def Obligations.RefusalsChangeNothing : Prop :=
  (∀ (s : State) (p : Port) (dest : Byte) (payload : List Byte) (key : Bool), TakenDirect s p dest payload →
      let n := payload.length
      let refused (i : Instr) (code : Byte) (st : Status) : Prop :=
        ∃ t, exec i s = .next t ∧ OnlyAnswered s t p dest code payload st []
      let row (i : Instr) (code : Byte) (length : Prop) (may : Bool) : Prop :=
        (¬ length → refused i code .invalid) ∧ (length → may = false → refused i code .denied)
      let held (i : Instr) (code : Byte) (length : Prop) : Prop :=
        (¬ length → refused i code .invalid) ∧ (length → s.holdsToken p = false → refused i code .notHolder)
      let m := s.may p
      row (.identify p dest payload) 1 (n = 0) true ∧ row (.readStatus p dest payload) 2 (n = 0) m.read ∧
      row (.clearAttention p dest payload) 3 (n = 2) true ∧ row (.setAttentionEnables p dest payload) 4 (n = 2) true ∧
      row (.readTemperatures p dest payload) 5 (n = 0) m.read ∧ row (.readRecords p dest payload) 6 (n = 2) m.read ∧
      row (.release p dest payload) 7 (n = 4) m.read ∧ row (.seek p dest payload) 8 (n = 5) m.read ∧
      row (.setFilter p dest payload) 9 (n = 6) m.read ∧ row (.timeMark p dest payload) 10 (n = 4) m.time ∧
      row (.timeSet p dest payload) 11 (n = 8) m.time ∧ row (.laneMode p dest payload) 12 (n = 2) m.lane ∧
      row (.claimEdit p dest payload) 13 (n = 0) m.edit ∧ held (.releaseEdit p dest payload) 14 (n = 0) ∧
      row (.readSetting p dest payload) 15 (n = 4) m.read ∧ held (.writeSetting p dest payload) 16 (writeSettingLength payload = true) ∧
      held (.commit p dest payload) 17 (n = 0) ∧ held (.discard p dest payload) 18 (n = 0) ∧
      held (.startRun p dest payload) 19 (2 ≤ n ∧ n = 2 + 2 * field payload 1 1) ∧ held (.acceptPass p dest payload) 20 (n = 4) ∧
      held (.rejectPass p dest payload) 21 (n = 4) ∧ row (.readRun p dest payload) 22 (n = 0) m.read ∧
      held (.applyRun p dest payload) 23 (n = 0) ∧ held (.endRun p dest payload) 24 (n = 0) ∧
      row (.readDrift p dest payload) 25 (n = 0) m.read ∧ row (.restart p dest payload) 28 (n = 0) m.restart ∧
      (n ≠ 1 → (∃ t, exec (.driftApply p dest payload key) s = .next t ∧ OnlyAnswered (s.withKey key) t p dest 26 payload .invalid []) ∧
        ∃ t, exec (.driftReset p dest payload key) s = .next t ∧ OnlyAnswered (s.withKey key) t p dest 27 payload .invalid []) ∧
      (∀ code : Byte, code.toNat = 0 ∨ 28 < code.toNat → refused (.unknownRequest p dest code payload) code .unknown)) ∧
  (∀ (s : State) (p : Port) (dest code : Byte) (payload : List Byte) (key : Bool) (i : Instr), (s.sitePort p).takes = true →
    payload.length ≤ 1024 → (s.addressee p dest = .broadcast ∨ s.addressee p dest = .group) →
    i ∈ [.identify p dest payload, .readStatus p dest payload, .clearAttention p dest payload, .setAttentionEnables p dest payload,
      .readTemperatures p dest payload, .readRecords p dest payload, .release p dest payload, .seek p dest payload,
      .setFilter p dest payload, .timeSet p dest payload, .claimEdit p dest payload, .releaseEdit p dest payload,
      .readSetting p dest payload, .writeSetting p dest payload, .commit p dest payload, .discard p dest payload,
      .startRun p dest payload, .acceptPass p dest payload, .rejectPass p dest payload, .readRun p dest payload,
      .applyRun p dest payload, .endRun p dest payload, .readDrift p dest payload, .driftApply p dest payload key,
      .driftReset p dest payload key, .restart p dest payload] ∨
      (code.toNat = 0 ∨ 28 < code.toNat) ∧ i = .unknownRequest p dest code payload →
    ∃ t, exec i s = .next t ∧ t.port = s.port.set p ((s.sitePort p).listening (s.portSet p).rate) ∧
      (t.lines = s.lines ∨ t.lines = { s.lines with key := key }) ∧ AgreeOutside [.port, .lines] s t)

/-- A port's attention line is asserted exactly when one of its ten conditions holds and is enabled. CLEAR ATTENTION clears the latched
conditions it names at its own port, with SITE_ALARM every detail and margin latch, and no level condition; SET ATTENTION ENABLES replaces
the port's enables and leaves every condition (R168, R169). -/
def Obligations.AttentionClearedAndEnabled : Prop :=
  (∀ q : SitePort, q.attention = true ↔ ∃ k, k < 10 ∧ q.cond.getLsbD k = true ∧ q.enables.getLsbD k = true) ∧
  ∀ (s : State) (p : Port) (dest a b : Byte), TakenDirect s p dest [a, b] →
    let set := BitVec.ofNat 10 (a.toNat * 256 + b.toNat)
    (∃ t, exec (.clearAttention p dest [a, b]) s = .next t ∧
      t.port = s.port.set p (AnsweredPort { s.sitePort p with
        cond := (s.sitePort p).cond &&& ~~~(set &&& 0x3F1)
        details := if set.getLsbD 8 then 0 else (s.sitePort p).details } dest 3 [a, b] .ok []) ∧
      t.sst = LeaseRestarted p s.sst ∧ AgreeOutside [.port, .sst] s t) ∧
    (∃ t, exec (.setAttentionEnables p dest [a, b]) s = .next t ∧
      t.port = s.port.set p (AnsweredPort { s.sitePort p with enables := set } dest 4 [a, b] .ok []) ∧
      t.sst = LeaseRestarted p s.sst ∧ AgreeOutside [.port, .sst] s t)

/-- RESTART with its privilege is refused BUSY while programming runs; otherwise it is answered OK, and at the end of that reply the
processor starts up with cause RESTART_REQUEST (that REPLY_SENT is this moment is log 26). Any other reply's end returns the port to
LISTEN with idle count 0 (R164, R172). -/
def Obligations.RestartFollowsItsReply : Prop :=
  (∀ (s : State) (p : Port) (dest : Byte), TakenDirect s p dest [] → (s.may p).restart = true →
    ∃ t, exec (.restart p dest []) s = .next t ∧
      (s.sst.prog ≠ .idle → OnlyAnswered s t p dest 28 [] .busy []) ∧
      (s.sst.prog = .idle →
        t.port = s.port.set p (AnsweredPort { s.sitePort p with restarting := true } dest 28 [] .ok []) ∧
        t.sst = LeaseRestarted p s.sst ∧ AgreeOutside [.port, .sst] s t)) ∧
  (∀ (s : State) (p : Port), (s.sitePort p).state = .reply → (s.sitePort p).driving = true →
    ((s.sitePort p).restarting = true → exec (.replySent p) s = exec (.startUp .restartRequest) s ∧
      ∃ t, exec (.replySent p) s = .next t ∧ t.startCause = .restartRequest) ∧
    ((s.sitePort p).restarting = false → ∃ t, exec (.replySent p) s = .next t ∧
      (t.sitePort p).state = .listen ∧ (t.sitePort p).idle = 0 ∧ (t.sitePort p).rate = (s.portSet p).rate ∧
      (t.sitePort p).cond = (s.sitePort p).cond ∧ (∀ q, q ≠ p → t.sitePort q = s.sitePort q) ∧ AgreeOutside [.port] s t))

/-! ### Frames and bytes on the line -/

/-- A frame that fails its CRC is dropped with the CRC error count and LINE_ERROR; one ended early by a low stop bit, a length above
1,024 or a gap is dropped with the framing error count and LINE_ERROR, and after a gap the port is armed; in each case the port is in
LISTEN and nothing else changes (R161, R162). -/
def Obligations.BadFramesAreCounted : Prop :=
  ∀ (s : State) (p : Port), (s.sitePort p).takes = true →
    let listening := (s.sitePort p).listening (s.portSet p).rate
    (∀ frame, wholeFrame frame = true → crcAgrees frame = false → ∃ t, exec (.frameCrcError p frame) s = .next t ∧
      t.port = s.port.set p { listening with
        crcErrors := min 65535 (listening.crcErrors + 1), cond := listening.cond ||| 0x200 } ∧ AgreeOutside [.port] s t) ∧
    (∀ bytes lowStop, (Instr.framingError p bytes lowStop).wf = true → ∃ t, exec (.framingError p bytes lowStop) s = .next t ∧
      t.port = s.port.set p { listening with
        framingErrors := min 65535 (listening.framingErrors + 1), cond := listening.cond ||| 0x200 } ∧
      AgreeOutside [.port] s t) ∧
    (∀ bytes, unfinished bytes = true → ∃ t, exec (.frameGapTimeout p bytes) s = .next t ∧
      t.port = s.port.set p { listening with
        framingErrors := min 65535 (listening.framingErrors + 1), cond := listening.cond ||| 0x200, idle := 21 } ∧
      AgreeOutside [.port] s t)

/-- A byte in LISTEN on a port not armed is discarded and restarts the idle count; one on a port that holds a request is an overrun, counted
with LINE_ERROR, and the request in hand is kept, with the time since its end; PORT_ARMED arms a port in every state of it; REPLY_START
drives a reply not yet driven (R160, R163, R164; that these two commands do so whatever the counts is log 24, and that the block raises them
at 20 and 4 bit times is the empty queue's, log 3). The reply of another unit, and a good frame for no one here, return the port to LISTEN
with idle count 0 (R162, R165, R183). Each touches that port alone. A request's destination with bit 6 set is for no one here. Any other is
direct when it is the unit address, else broadcast when it is 63 with broadcast acceptance on, else, not being 63, the group's when group
enable is on and it agrees with the group address in every bit of the group mask, and else for no one (R165). -/
def Obligations.QuietLineEvents : Prop :=
  (∀ (s : State) (p : Port) (b : Byte),
      let q := s.sitePort p
      let becomes (i : Instr) (q' : SitePort) : Prop :=
        ∃ t, exec i s = .next t ∧ t.port = s.port.set p q' ∧ AgreeOutside [.port] s t
      (q.state = .listen → q.idle < 20 → becomes (.listenByteNotArmed p b) { q with idle := 0, bitPhase := 0 }) ∧
      (q.state = .execute ∨ (q.state = .reply ∧ q.driving = false) →
        becomes (.overrun p b) { q with
          overruns := min 65535 (q.overruns + 1), idle := 0, bitPhase := 0, cond := q.cond ||| 0x200 }) ∧
      (q.idle < 20 → becomes (.portArmed p) { q with idle := 20 }) ∧
      (q.state = .reply → q.driving = false → becomes (.replyStart p) { q with driving := true, sentBits := 0, bitPhase := 0 })) ∧
  (∀ (s : State) (p : Port) (first second : Byte) (payload : List Byte), (s.sitePort p).takes = true → payload.length ≤ 1024 →
      let quiet (i : Instr) : Prop :=
        ∃ t, exec i s = .next t ∧ t.port = s.port.set p ((s.sitePort p).listening (s.portSet p).rate) ∧ AgreeOutside [.port] s t
      (128 ≤ first.toNat → quiet (.otherUnitReply p first second payload)) ∧
      (first.toNat < 128 → s.addressee p first = .noOne → quiet (.frameNotAddressed p first second payload))) ∧
  (∀ (s : State) (p : Port) (dest : Byte), dest.getLsbD 7 = false →
      let n := dest.toNat
      let unit := n = s.site.unitAddress
      let toAll := n = 63 ∧ (s.portSet p).broadcast = true
      let toGroup := n ≠ 63 ∧ (s.portSet p).groupEnable = true ∧
        ∀ k, s.site.groupMask.testBit k = true → n.testBit k = s.site.groupAddress.testBit k
      (dest.getLsbD 6 = true → s.addressee p dest = .noOne) ∧
      (dest.getLsbD 6 = false → (unit → s.addressee p dest = .direct) ∧ (¬ unit → toAll → s.addressee p dest = .broadcast) ∧
        (¬ unit → toGroup → s.addressee p dest = .group) ∧ (¬ unit → ¬ toAll → ¬ toGroup → s.addressee p dest = .noOne)))

/-- Every well-formed request command is a frame that is whole, carries its own CRC, and holds its destination, code and payload where
the frame layout puts them (R159, R183). -/
def Obligations.RequestFramesAreWhole : Prop :=
  ∀ (i : Instr) (dest code : Byte) (payload : List Byte), i.wf = true → i.frame? = some (dest, code, payload) →
    let frame := buildFrame dest code payload
    wholeFrame frame = true ∧ crcAgrees frame = true ∧ frame[0]? = some dest ∧ frame[1]? = some code ∧
      framePayload frame = payload ∧ dest.getLsbD 7 = false

/-! ### What every step keeps -/

/-- No step takes the clock's figures out of their ranges (R1, R3 to R9). -/
def Obligations.StepKeepsClock : Prop :=
  ∀ s t : State, ClockOk s.sck → step s = .next t → ClockOk t.sck

/-- No step takes a drift factor, or anything that may become one, out of 3,686 to 4,506, fills a window to 64, or lets the stored
image agree while programming runs (R122, R123, R126, R181). -/
def Obligations.StepKeepsCalibration : Prop :=
  ∀ s t : State, CalibrationOk s → step s = .next t → CalibrationOk t

/-- After every step a run is active only while its owner holds the token, a pass is pending exactly in PENDING, and at most 16
passes are held (R133, R134, R139, R176). -/
def Obligations.StepKeepsRunWithToken : Prop :=
  ∀ s t : State, RunOk s → step s = .next t → RunOk t

/-- After every step the store holds at most 32,768 bytes of records and the queue 4 vehicles, vehicle numbers strictly increase from
the oldest record through the queue, below the site counter, and every cursor lies from the oldest number to the store next number
(R115, R141 to R145). -/
def Obligations.StepKeepsStore : Prop :=
  ∀ s t : State, StoreOk s → step s = .next t → StoreOk t

/-- After every step an upstream list holds at most 8 entries and a miss count is at most 32 (R54, R68); a CLOSED lane's context is IDLE
(R94); every slot's half is of its own channel (R45) and every list's entries of its own lane (R53, R54); and the coincidence window of
every image in use, or that may come into use, is at most 64 (R71, R177). Each is kept by itself. -/
def Obligations.StepKeepsFormersAndClosedLanes : Prop :=
  (∀ s t : State, FormersOk s → step s = .next t → FormersOk t) ∧ (∀ s t : State, LanesOk s → step s = .next t → LanesOk t) ∧
  (∀ s t : State, SlotsOk s → step s = .next t → SlotsOk t) ∧ (∀ s t : State, ListsOk s → step s = .next t → ListsOk t) ∧
  (∀ s t : State, WindowsOk s → step s = .next t → WindowsOk t)
end

