-- ==== Sys2Proof/Laws/Bytes.lean ====
section
/-! SUPPORT. What the bytes of a frame and the fields of a payload are: lengths, a field read back from the bytes that spell it,
and the parts of a built frame. -/

namespace Sys2Proof.Machine

@[simp] theorem natBytes_length : ∀ k n : Nat, (natBytes k n).length = k
  | 0, _ => rfl
  | k + 1, n => by simp [natBytes, natBytes_length k n]

@[simp] theorem intBytes_length (k : Nat) (x : Int) : (intBytes k x).length = k := natBytes_length _ _
@[simp] theorem bitBytes_length {w : Nat} (k : Nat) (b : BitVec w) : (natBytes k b.toNat).length = k := natBytes_length _ _
@[simp] theorem boolByte_length (b : Bool) : (boolByte b).length = 1 := rfl

theorem bytesNat_from (a : Nat) : ∀ bs : List Byte, bs.foldl (fun n b => n * 256 + b.toNat) a = a * 256 ^ bs.length + bytesNat bs
  | [] => by simp [bytesNat]
  | b :: bs => by
    simp only [bytesNat, List.foldl_cons, List.length_cons, pow_succ]
    rw [bytesNat_from (a * 256 + b.toNat) bs, bytesNat_from (0 * 256 + b.toNat) bs]
    ring

theorem bytesNat_cons (b : Byte) (bs : List Byte) : bytesNat (b :: bs) = b.toNat * 256 ^ bs.length + bytesNat bs := by
  rw [bytesNat, List.foldl_cons, bytesNat_from]; simp

theorem bytesNat_append (as bs : List Byte) : bytesNat (as ++ bs) = bytesNat as * 256 ^ bs.length + bytesNat bs := by
  rw [bytesNat, List.foldl_append, bytesNat_from]; rfl

theorem bytesNat_lt : ∀ bs : List Byte, bytesNat bs < 256 ^ bs.length
  | [] => by simp [bytesNat]
  | b :: bs => by
    rw [bytesNat_cons, List.length_cons, pow_succ]
    have := bytesNat_lt bs
    have := b.isLt
    nlinarith [Nat.mul_le_mul_right (256 ^ bs.length) (Nat.le_of_lt_succ b.isLt)]

/-- A number spelled in k bytes reads back modulo 256^k. -/
@[simp] theorem bytesNat_natBytes : ∀ k n : Nat, bytesNat (natBytes k n) = n % 256 ^ k
  | 0, n => by simp [natBytes, bytesNat, Nat.mod_one]
  | k + 1, n => by
    rw [natBytes, bytesNat_cons, natBytes_length, bytesNat_natBytes k n, BitVec.toNat_ofNat,
      pow_succ 256 k, Nat.mod_mul, show 2 ^ 8 = 256 from rfl, Nat.mul_comm (256 ^ k), Nat.add_comm]

/-- Bytes are spelled again by the number they spell. -/
theorem natBytes_bytesNat : ∀ bs : List Byte, natBytes bs.length (bytesNat bs) = bs
  | [] => rfl
  | b :: bs => by
    have h := bytesNat_lt bs
    rw [List.length_cons, natBytes, bytesNat_cons]
    congr 1
    · rw [Nat.mul_comm, Nat.mul_add_div (by positivity), Nat.div_eq_of_lt h]; simp
    · have e : ∀ k m a : Nat, natBytes k (a * 256 ^ k + m) = natBytes k m := by
        intro k
        induction k with
        | zero => intros; rfl
        | succ k ih =>
          intro m a
          have p : a * 256 ^ (k + 1) + m = 256 ^ k * (a * 256) + m := by ring
          rw [natBytes, natBytes, p, Nat.mul_add_div (by positivity)]
          congr 1
          · apply BitVec.eq_of_toNat_eq; simp [Nat.add_mod]
          · have q := ih m (a * 256)
            rwa [Nat.mul_comm] at q
      rw [e, natBytes_bytesNat bs]

/-- The frame of a payload: its four parts in order (R159). -/
theorem buildFrame_eq (first second : Byte) (payload : List Byte) :
    buildFrame first second payload = first :: second :: (natBytes 2 payload.length ++ (payload ++
      crcBytes (first :: second :: (natBytes 2 payload.length ++ payload)))) := by
  simp [buildFrame]

@[simp] theorem crcBytes_length (bs : List Byte) : (crcBytes bs).length = 2 := natBytes_length _ _

@[simp] theorem buildFrame_length (first second : Byte) (payload : List Byte) :
    (buildFrame first second payload).length = 6 + payload.length := by
  simp [buildFrame_eq]; omega

@[simp] theorem buildFrame_headD (first second : Byte) (payload : List Byte) (d : Byte) :
    (buildFrame first second payload).headD d = first := rfl

@[simp] theorem frameLength_buildFrame (first second : Byte) (payload : List Byte) (h : payload.length < 65536) :
    frameLength (buildFrame first second payload) = payload.length := by
  have e : ((buildFrame first second payload).drop 2).take 2 = natBytes 2 payload.length := by
    rw [buildFrame_eq]; simp
  rw [frameLength, field, e, bytesNat_natBytes]; omega

theorem framePayload_buildFrame (first second : Byte) (payload : List Byte) (h : payload.length < 65536) :
    framePayload (buildFrame first second payload) = payload := by
  rw [framePayload, frameLength_buildFrame _ _ _ h, buildFrame_eq]
  have e : natBytes 2 payload.length = [BitVec.ofNat 8 (payload.length / 256), BitVec.ofNat 8 payload.length] := by simp [natBytes]
  rw [e]; simp

/-- The code a port reads in the frame it holds. -/
theorem code_buildFrame (q : SitePort) (first second : Byte) (payload : List Byte) (h : q.rx = buildFrame first second payload) :
    q.code = second.toNat := by
  rw [SitePort.code, h, buildFrame_eq]; simp [field, bytesNat]

@[simp] theorem crcAgrees_buildFrame (first second : Byte) (payload : List Byte) :
    crcAgrees (buildFrame first second payload) = true := by
  have e : 6 + payload.length - 2 = (first :: second :: natBytes 2 payload.length ++ payload).length := by simp; omega
  rw [crcAgrees, buildFrame_length, e, buildFrame, List.drop_left, List.take_left]; simp

theorem wholeFrame_buildFrame (first second : Byte) (payload : List Byte) (h : payload.length ≤ 1024) :
    wholeFrame (buildFrame first second payload) = true := by
  have k : payload.length < 65536 := by omega
  simp [wholeFrame, frameLength_buildFrame _ _ _ k, h]

end Sys2Proof.Machine
end

