-- ==== Sys2Proof/Laws/State.lean ====
section
/-! SUPPORT. One lemma per field per update of State, so that no proof unfolds a record update; the readers of Ops.lean reduced
to the fields they read; and reading after setting for the per-lane, per-half, per-port and per-probe records. -/

namespace Sys2Proof

/-! ### Reading after setting -/

@[simp] theorem PerLane.get_set_self {α : Type} (v : PerLane α) (k : Lane) (x : α) : (v.set k x).get k = x := by cases k <;> rfl
@[simp] theorem PerLane.get_set_ne {α : Type} (v : PerLane α) {j k : Lane} (x : α) (h : j ≠ k) : (v.set k x).get j = v.get j := by
  cases j <;> cases k <;> first | rfl | exact absurd rfl h
theorem PerLane.get_set {α : Type} (v : PerLane α) (j k : Lane) (x : α) : (v.set k x).get j = if j = k then x else v.get j := by
  cases j <;> cases k <;> rfl
@[simp] theorem PerLane.set_set {α : Type} (v : PerLane α) (k : Lane) (x y : α) : (v.set k x).set k y = v.set k y := by cases k <;> rfl
@[simp] theorem PerLane.set_get {α : Type} (v : PerLane α) (k : Lane) : v.set k (v.get k) = v := by cases k <;> rfl
@[simp] theorem PerLane.get_mapI {α β : Type} (f : Lane → α → β) (v : PerLane α) (k : Lane) : (v.mapI f).get k = f k (v.get k) := by
  cases k <;> rfl
@[simp] theorem PerLane.get_all {α : Type} (x : α) (k : Lane) : (PerLane.all x).get k = x := by cases k <;> rfl

@[simp] theorem PerPort.get_set_self {α : Type} (v : PerPort α) (k : Port) (x : α) : (v.set k x).get k = x := by cases k <;> rfl
@[simp] theorem PerPort.get_set_ne {α : Type} (v : PerPort α) {j k : Port} (x : α) (h : j ≠ k) : (v.set k x).get j = v.get j := by
  cases j <;> cases k <;> first | rfl | exact absurd rfl h
theorem PerPort.get_set {α : Type} (v : PerPort α) (j k : Port) (x : α) : (v.set k x).get j = if j = k then x else v.get j := by
  cases j <;> cases k <;> rfl
@[simp] theorem PerPort.set_set {α : Type} (v : PerPort α) (k : Port) (x y : α) : (v.set k x).set k y = v.set k y := by cases k <;> rfl
@[simp] theorem PerPort.set_get {α : Type} (v : PerPort α) (k : Port) : v.set k (v.get k) = v := by cases k <;> rfl
@[simp] theorem PerPort.get_mapI {α β : Type} (f : Port → α → β) (v : PerPort α) (k : Port) : (v.mapI f).get k = f k (v.get k) := by
  cases k <;> rfl
@[simp] theorem PerPort.get_all {α : Type} (x : α) (k : Port) : (PerPort.all x).get k = x := by cases k <;> rfl

@[simp] theorem PerProbe.get_set_self {α : Type} (v : PerProbe α) (k : Probe) (x : α) : (v.set k x).get k = x := by cases k <;> rfl
@[simp] theorem PerProbe.get_set_ne {α : Type} (v : PerProbe α) {j k : Probe} (x : α) (h : j ≠ k) : (v.set k x).get j = v.get j := by
  cases j <;> cases k <;> first | rfl | exact absurd rfl h
theorem PerProbe.get_set {α : Type} (v : PerProbe α) (j k : Probe) (x : α) : (v.set k x).get j = if j = k then x else v.get j := by
  cases j <;> cases k <;> rfl
@[simp] theorem PerProbe.set_set {α : Type} (v : PerProbe α) (k : Probe) (x y : α) : (v.set k x).set k y = v.set k y := by cases k <;> rfl
@[simp] theorem PerProbe.set_get {α : Type} (v : PerProbe α) (k : Probe) : v.set k (v.get k) = v := by cases k <;> rfl
@[simp] theorem PerProbe.get_mapI {α β : Type} (f : Probe → α → β) (v : PerProbe α) (k : Probe) : (v.mapI f).get k = f k (v.get k) := by
  cases k <;> rfl
@[simp] theorem PerProbe.get_all {α : Type} (x : α) (k : Probe) : (PerProbe.all x).get k = x := by cases k <;> rfl

@[simp] theorem PerHalf.get_set_self {α : Type} (v : PerHalf α) (r : Row) (d : Side) (x : α) : (v.set r d x).get r d = x := by
  cases r <;> cases d <;> rfl
theorem PerHalf.get_set {α : Type} (v : PerHalf α) (r q : Row) (d e : Side) (x : α) :
    (v.set r d x).get q e = if q = r ∧ e = d then x else v.get q e := by
  cases r <;> cases d <;> cases q <;> cases e <;> rfl
@[simp] theorem PerHalf.get_mapI {α β : Type} (f : Row → Side → α → β) (v : PerHalf α) (r : Row) (d : Side) :
    (v.mapI f).get r d = f r d (v.get r d) := by cases r <;> cases d <;> rfl
@[simp] theorem PerHalf.get_all {α : Type} (x : α) (r : Row) (d : Side) : (PerHalf.all x).get r d = x := by
  cases r <;> cases d <;> rfl
@[simp] theorem getCh_setCh_self {α : Type} (v : PerChannel α) (c : Channel) (x : α) : getCh (setCh v c x) c = x := by
  simp [getCh, setCh]
theorem getCh_setCh {α : Type} (v : PerChannel α) (c d : Channel) (x : α) :
    getCh (setCh v c x) d = if d = c then x else getCh v d := by
  obtain ⟨l, r, e⟩ := c
  obtain ⟨m, q, f⟩ := d
  simp only [getCh, setCh, PerLane.get_set, Channel.mk.injEq]
  by_cases h : m = l
  · subst h; simp [PerHalf.get_set]
  · simp [h]

namespace Machine

/-! ### The readers -/

@[simp] theorem State.settings_eq (s : State) : s.settings = s.sst.active.settings := rfl
@[simp] theorem State.generation_eq (s : State) : s.generation = s.sst.active.generation := rfl
@[simp] theorem State.laneSet_eq (s : State) (l : Lane) : s.laneSet l = s.sst.active.settings.lane.get l := rfl
@[simp] theorem State.channelSet_eq (s : State) (c : Channel) : s.channelSet c = getCh s.sst.active.settings.channel c := rfl
@[simp] theorem State.site_eq (s : State) : s.site = s.sst.active.settings.site := rfl
@[simp] theorem State.portSet_eq (s : State) (p : Port) : s.portSet p = s.sst.active.settings.port.get p := rfl
@[simp] theorem State.former_eq (s : State) (l : Lane) : s.former l = s.axf.get l := rfl
@[simp] theorem State.builder_eq (s : State) (l : Lane) : s.builder l = s.vb.get l := rfl
@[simp] theorem State.ctx_eq (s : State) (l : Lane) : s.ctx l = (s.vb.get l).ctx := rfl
@[simp] theorem State.tracker_eq (s : State) (l : Lane) : s.tracker l = s.dtk.get l := rfl
@[simp] theorem State.laneTemp_eq (s : State) (l : Lane) : s.laneTemp l = s.ptm.lane.get l := rfl
@[simp] theorem State.conditioner_eq (s : State) (c : Channel) : s.conditioner c = getCh s.cc c := rfl
@[simp] theorem State.slot_eq (s : State) (c : Channel) : s.slot c = (s.axf.get c.lane).slots.get c.row c.side := rfl
@[simp] theorem State.sitePort_eq (s : State) (p : Port) : s.sitePort p = s.port.get p := rfl

/-! ### The writers -/

@[simp] theorem State.withPending_pending (s : State) (x : List Instr) : (s.withPending x).pending = x := rfl
@[simp] theorem State.withPending_lines (s : State) (x : List Instr) : (s.withPending x).lines = s.lines := rfl
@[simp] theorem State.withPending_sck (s : State) (x : List Instr) : (s.withPending x).sck = s.sck := rfl
@[simp] theorem State.withPending_slr (s : State) (x : List Instr) : (s.withPending x).slr = s.slr := rfl
@[simp] theorem State.withPending_cc (s : State) (x : List Instr) : (s.withPending x).cc = s.cc := rfl
@[simp] theorem State.withPending_axf (s : State) (x : List Instr) : (s.withPending x).axf = s.axf := rfl
@[simp] theorem State.withPending_vb (s : State) (x : List Instr) : (s.withPending x).vb = s.vb := rfl
@[simp] theorem State.withPending_vehicleNumber (s : State) (x : List Instr) : (s.withPending x).vehicleNumber = s.vehicleNumber := rfl
@[simp] theorem State.withPending_ptm (s : State) (x : List Instr) : (s.withPending x).ptm = s.ptm := rfl
@[simp] theorem State.withPending_dtk (s : State) (x : List Instr) : (s.withPending x).dtk = s.dtk := rfl
@[simp] theorem State.withPending_rru (s : State) (x : List Instr) : (s.withPending x).rru = s.rru := rfl
@[simp] theorem State.withPending_rst (s : State) (x : List Instr) : (s.withPending x).rst = s.rst := rfl
@[simp] theorem State.withPending_sea (s : State) (x : List Instr) : (s.withPending x).sea = s.sea := rfl
@[simp] theorem State.withPending_port (s : State) (x : List Instr) : (s.withPending x).port = s.port := rfl
@[simp] theorem State.withPending_startCause (s : State) (x : List Instr) : (s.withPending x).startCause = s.startCause := rfl
@[simp] theorem State.withPending_sst (s : State) (x : List Instr) : (s.withPending x).sst = s.sst := rfl
@[simp] theorem State.withPending_freeCount (s : State) (x : List Instr) : (s.withPending x).freeCount = s.freeCount := rfl
@[simp] theorem State.withLines_pending (s : State) (x : Lines) : (s.withLines x).pending = s.pending := rfl
@[simp] theorem State.withLines_lines (s : State) (x : Lines) : (s.withLines x).lines = x := rfl
@[simp] theorem State.withLines_sck (s : State) (x : Lines) : (s.withLines x).sck = s.sck := rfl
@[simp] theorem State.withLines_slr (s : State) (x : Lines) : (s.withLines x).slr = s.slr := rfl
@[simp] theorem State.withLines_cc (s : State) (x : Lines) : (s.withLines x).cc = s.cc := rfl
@[simp] theorem State.withLines_axf (s : State) (x : Lines) : (s.withLines x).axf = s.axf := rfl
@[simp] theorem State.withLines_vb (s : State) (x : Lines) : (s.withLines x).vb = s.vb := rfl
@[simp] theorem State.withLines_vehicleNumber (s : State) (x : Lines) : (s.withLines x).vehicleNumber = s.vehicleNumber := rfl
@[simp] theorem State.withLines_ptm (s : State) (x : Lines) : (s.withLines x).ptm = s.ptm := rfl
@[simp] theorem State.withLines_dtk (s : State) (x : Lines) : (s.withLines x).dtk = s.dtk := rfl
@[simp] theorem State.withLines_rru (s : State) (x : Lines) : (s.withLines x).rru = s.rru := rfl
@[simp] theorem State.withLines_rst (s : State) (x : Lines) : (s.withLines x).rst = s.rst := rfl
@[simp] theorem State.withLines_sea (s : State) (x : Lines) : (s.withLines x).sea = s.sea := rfl
@[simp] theorem State.withLines_port (s : State) (x : Lines) : (s.withLines x).port = s.port := rfl
@[simp] theorem State.withLines_startCause (s : State) (x : Lines) : (s.withLines x).startCause = s.startCause := rfl
@[simp] theorem State.withLines_sst (s : State) (x : Lines) : (s.withLines x).sst = s.sst := rfl
@[simp] theorem State.withLines_freeCount (s : State) (x : Lines) : (s.withLines x).freeCount = s.freeCount := rfl
@[simp] theorem State.withSck_pending (s : State) (x : Clock) : (s.withSck x).pending = s.pending := rfl
@[simp] theorem State.withSck_lines (s : State) (x : Clock) : (s.withSck x).lines = s.lines := rfl
@[simp] theorem State.withSck_sck (s : State) (x : Clock) : (s.withSck x).sck = x := rfl
@[simp] theorem State.withSck_slr (s : State) (x : Clock) : (s.withSck x).slr = s.slr := rfl
@[simp] theorem State.withSck_cc (s : State) (x : Clock) : (s.withSck x).cc = s.cc := rfl
@[simp] theorem State.withSck_axf (s : State) (x : Clock) : (s.withSck x).axf = s.axf := rfl
@[simp] theorem State.withSck_vb (s : State) (x : Clock) : (s.withSck x).vb = s.vb := rfl
@[simp] theorem State.withSck_vehicleNumber (s : State) (x : Clock) : (s.withSck x).vehicleNumber = s.vehicleNumber := rfl
@[simp] theorem State.withSck_ptm (s : State) (x : Clock) : (s.withSck x).ptm = s.ptm := rfl
@[simp] theorem State.withSck_dtk (s : State) (x : Clock) : (s.withSck x).dtk = s.dtk := rfl
@[simp] theorem State.withSck_rru (s : State) (x : Clock) : (s.withSck x).rru = s.rru := rfl
@[simp] theorem State.withSck_rst (s : State) (x : Clock) : (s.withSck x).rst = s.rst := rfl
@[simp] theorem State.withSck_sea (s : State) (x : Clock) : (s.withSck x).sea = s.sea := rfl
@[simp] theorem State.withSck_port (s : State) (x : Clock) : (s.withSck x).port = s.port := rfl
@[simp] theorem State.withSck_startCause (s : State) (x : Clock) : (s.withSck x).startCause = s.startCause := rfl
@[simp] theorem State.withSck_sst (s : State) (x : Clock) : (s.withSck x).sst = s.sst := rfl
@[simp] theorem State.withSck_freeCount (s : State) (x : Clock) : (s.withSck x).freeCount = s.freeCount := rfl
@[simp] theorem State.withSlr_pending (s : State) (x : Link) : (s.withSlr x).pending = s.pending := rfl
@[simp] theorem State.withSlr_lines (s : State) (x : Link) : (s.withSlr x).lines = s.lines := rfl
@[simp] theorem State.withSlr_sck (s : State) (x : Link) : (s.withSlr x).sck = s.sck := rfl
@[simp] theorem State.withSlr_slr (s : State) (x : Link) : (s.withSlr x).slr = x := rfl
@[simp] theorem State.withSlr_cc (s : State) (x : Link) : (s.withSlr x).cc = s.cc := rfl
@[simp] theorem State.withSlr_axf (s : State) (x : Link) : (s.withSlr x).axf = s.axf := rfl
@[simp] theorem State.withSlr_vb (s : State) (x : Link) : (s.withSlr x).vb = s.vb := rfl
@[simp] theorem State.withSlr_vehicleNumber (s : State) (x : Link) : (s.withSlr x).vehicleNumber = s.vehicleNumber := rfl
@[simp] theorem State.withSlr_ptm (s : State) (x : Link) : (s.withSlr x).ptm = s.ptm := rfl
@[simp] theorem State.withSlr_dtk (s : State) (x : Link) : (s.withSlr x).dtk = s.dtk := rfl
@[simp] theorem State.withSlr_rru (s : State) (x : Link) : (s.withSlr x).rru = s.rru := rfl
@[simp] theorem State.withSlr_rst (s : State) (x : Link) : (s.withSlr x).rst = s.rst := rfl
@[simp] theorem State.withSlr_sea (s : State) (x : Link) : (s.withSlr x).sea = s.sea := rfl
@[simp] theorem State.withSlr_port (s : State) (x : Link) : (s.withSlr x).port = s.port := rfl
@[simp] theorem State.withSlr_startCause (s : State) (x : Link) : (s.withSlr x).startCause = s.startCause := rfl
@[simp] theorem State.withSlr_sst (s : State) (x : Link) : (s.withSlr x).sst = s.sst := rfl
@[simp] theorem State.withSlr_freeCount (s : State) (x : Link) : (s.withSlr x).freeCount = s.freeCount := rfl
@[simp] theorem State.withCc_pending (s : State) (x : PerChannel Conditioner) : (s.withCc x).pending = s.pending := rfl
@[simp] theorem State.withCc_lines (s : State) (x : PerChannel Conditioner) : (s.withCc x).lines = s.lines := rfl
@[simp] theorem State.withCc_sck (s : State) (x : PerChannel Conditioner) : (s.withCc x).sck = s.sck := rfl
@[simp] theorem State.withCc_slr (s : State) (x : PerChannel Conditioner) : (s.withCc x).slr = s.slr := rfl
@[simp] theorem State.withCc_cc (s : State) (x : PerChannel Conditioner) : (s.withCc x).cc = x := rfl
@[simp] theorem State.withCc_axf (s : State) (x : PerChannel Conditioner) : (s.withCc x).axf = s.axf := rfl
@[simp] theorem State.withCc_vb (s : State) (x : PerChannel Conditioner) : (s.withCc x).vb = s.vb := rfl
@[simp] theorem State.withCc_vehicleNumber (s : State) (x : PerChannel Conditioner) : (s.withCc x).vehicleNumber = s.vehicleNumber := rfl
@[simp] theorem State.withCc_ptm (s : State) (x : PerChannel Conditioner) : (s.withCc x).ptm = s.ptm := rfl
@[simp] theorem State.withCc_dtk (s : State) (x : PerChannel Conditioner) : (s.withCc x).dtk = s.dtk := rfl
@[simp] theorem State.withCc_rru (s : State) (x : PerChannel Conditioner) : (s.withCc x).rru = s.rru := rfl
@[simp] theorem State.withCc_rst (s : State) (x : PerChannel Conditioner) : (s.withCc x).rst = s.rst := rfl
@[simp] theorem State.withCc_sea (s : State) (x : PerChannel Conditioner) : (s.withCc x).sea = s.sea := rfl
@[simp] theorem State.withCc_port (s : State) (x : PerChannel Conditioner) : (s.withCc x).port = s.port := rfl
@[simp] theorem State.withCc_startCause (s : State) (x : PerChannel Conditioner) : (s.withCc x).startCause = s.startCause := rfl
@[simp] theorem State.withCc_sst (s : State) (x : PerChannel Conditioner) : (s.withCc x).sst = s.sst := rfl
@[simp] theorem State.withCc_freeCount (s : State) (x : PerChannel Conditioner) : (s.withCc x).freeCount = s.freeCount := rfl
@[simp] theorem State.withVehicleNumber_pending (s : State) (x : Nat) : (s.withVehicleNumber x).pending = s.pending := rfl
@[simp] theorem State.withVehicleNumber_lines (s : State) (x : Nat) : (s.withVehicleNumber x).lines = s.lines := rfl
@[simp] theorem State.withVehicleNumber_sck (s : State) (x : Nat) : (s.withVehicleNumber x).sck = s.sck := rfl
@[simp] theorem State.withVehicleNumber_slr (s : State) (x : Nat) : (s.withVehicleNumber x).slr = s.slr := rfl
@[simp] theorem State.withVehicleNumber_cc (s : State) (x : Nat) : (s.withVehicleNumber x).cc = s.cc := rfl
@[simp] theorem State.withVehicleNumber_axf (s : State) (x : Nat) : (s.withVehicleNumber x).axf = s.axf := rfl
@[simp] theorem State.withVehicleNumber_vb (s : State) (x : Nat) : (s.withVehicleNumber x).vb = s.vb := rfl
@[simp] theorem State.withVehicleNumber_vehicleNumber (s : State) (x : Nat) : (s.withVehicleNumber x).vehicleNumber = x := rfl
@[simp] theorem State.withVehicleNumber_ptm (s : State) (x : Nat) : (s.withVehicleNumber x).ptm = s.ptm := rfl
@[simp] theorem State.withVehicleNumber_dtk (s : State) (x : Nat) : (s.withVehicleNumber x).dtk = s.dtk := rfl
@[simp] theorem State.withVehicleNumber_rru (s : State) (x : Nat) : (s.withVehicleNumber x).rru = s.rru := rfl
@[simp] theorem State.withVehicleNumber_rst (s : State) (x : Nat) : (s.withVehicleNumber x).rst = s.rst := rfl
@[simp] theorem State.withVehicleNumber_sea (s : State) (x : Nat) : (s.withVehicleNumber x).sea = s.sea := rfl
@[simp] theorem State.withVehicleNumber_port (s : State) (x : Nat) : (s.withVehicleNumber x).port = s.port := rfl
@[simp] theorem State.withVehicleNumber_startCause (s : State) (x : Nat) : (s.withVehicleNumber x).startCause = s.startCause := rfl
@[simp] theorem State.withVehicleNumber_sst (s : State) (x : Nat) : (s.withVehicleNumber x).sst = s.sst := rfl
@[simp] theorem State.withVehicleNumber_freeCount (s : State) (x : Nat) : (s.withVehicleNumber x).freeCount = s.freeCount := rfl
@[simp] theorem State.withPtm_pending (s : State) (x : TempMonitor) : (s.withPtm x).pending = s.pending := rfl
@[simp] theorem State.withPtm_lines (s : State) (x : TempMonitor) : (s.withPtm x).lines = s.lines := rfl
@[simp] theorem State.withPtm_sck (s : State) (x : TempMonitor) : (s.withPtm x).sck = s.sck := rfl
@[simp] theorem State.withPtm_slr (s : State) (x : TempMonitor) : (s.withPtm x).slr = s.slr := rfl
@[simp] theorem State.withPtm_cc (s : State) (x : TempMonitor) : (s.withPtm x).cc = s.cc := rfl
@[simp] theorem State.withPtm_axf (s : State) (x : TempMonitor) : (s.withPtm x).axf = s.axf := rfl
@[simp] theorem State.withPtm_vb (s : State) (x : TempMonitor) : (s.withPtm x).vb = s.vb := rfl
@[simp] theorem State.withPtm_vehicleNumber (s : State) (x : TempMonitor) : (s.withPtm x).vehicleNumber = s.vehicleNumber := rfl
@[simp] theorem State.withPtm_ptm (s : State) (x : TempMonitor) : (s.withPtm x).ptm = x := rfl
@[simp] theorem State.withPtm_dtk (s : State) (x : TempMonitor) : (s.withPtm x).dtk = s.dtk := rfl
@[simp] theorem State.withPtm_rru (s : State) (x : TempMonitor) : (s.withPtm x).rru = s.rru := rfl
@[simp] theorem State.withPtm_rst (s : State) (x : TempMonitor) : (s.withPtm x).rst = s.rst := rfl
@[simp] theorem State.withPtm_sea (s : State) (x : TempMonitor) : (s.withPtm x).sea = s.sea := rfl
@[simp] theorem State.withPtm_port (s : State) (x : TempMonitor) : (s.withPtm x).port = s.port := rfl
@[simp] theorem State.withPtm_startCause (s : State) (x : TempMonitor) : (s.withPtm x).startCause = s.startCause := rfl
@[simp] theorem State.withPtm_sst (s : State) (x : TempMonitor) : (s.withPtm x).sst = s.sst := rfl
@[simp] theorem State.withPtm_freeCount (s : State) (x : TempMonitor) : (s.withPtm x).freeCount = s.freeCount := rfl
@[simp] theorem State.withRru_pending (s : State) (x : RunUnit) : (s.withRru x).pending = s.pending := rfl
@[simp] theorem State.withRru_lines (s : State) (x : RunUnit) : (s.withRru x).lines = s.lines := rfl
@[simp] theorem State.withRru_sck (s : State) (x : RunUnit) : (s.withRru x).sck = s.sck := rfl
@[simp] theorem State.withRru_slr (s : State) (x : RunUnit) : (s.withRru x).slr = s.slr := rfl
@[simp] theorem State.withRru_cc (s : State) (x : RunUnit) : (s.withRru x).cc = s.cc := rfl
@[simp] theorem State.withRru_axf (s : State) (x : RunUnit) : (s.withRru x).axf = s.axf := rfl
@[simp] theorem State.withRru_vb (s : State) (x : RunUnit) : (s.withRru x).vb = s.vb := rfl
@[simp] theorem State.withRru_vehicleNumber (s : State) (x : RunUnit) : (s.withRru x).vehicleNumber = s.vehicleNumber := rfl
@[simp] theorem State.withRru_ptm (s : State) (x : RunUnit) : (s.withRru x).ptm = s.ptm := rfl
@[simp] theorem State.withRru_dtk (s : State) (x : RunUnit) : (s.withRru x).dtk = s.dtk := rfl
@[simp] theorem State.withRru_rru (s : State) (x : RunUnit) : (s.withRru x).rru = x := rfl
@[simp] theorem State.withRru_rst (s : State) (x : RunUnit) : (s.withRru x).rst = s.rst := rfl
@[simp] theorem State.withRru_sea (s : State) (x : RunUnit) : (s.withRru x).sea = s.sea := rfl
@[simp] theorem State.withRru_port (s : State) (x : RunUnit) : (s.withRru x).port = s.port := rfl
@[simp] theorem State.withRru_startCause (s : State) (x : RunUnit) : (s.withRru x).startCause = s.startCause := rfl
@[simp] theorem State.withRru_sst (s : State) (x : RunUnit) : (s.withRru x).sst = s.sst := rfl
@[simp] theorem State.withRru_freeCount (s : State) (x : RunUnit) : (s.withRru x).freeCount = s.freeCount := rfl
@[simp] theorem State.withRst_pending (s : State) (x : RecordStore) : (s.withRst x).pending = s.pending := rfl
@[simp] theorem State.withRst_lines (s : State) (x : RecordStore) : (s.withRst x).lines = s.lines := rfl
@[simp] theorem State.withRst_sck (s : State) (x : RecordStore) : (s.withRst x).sck = s.sck := rfl
@[simp] theorem State.withRst_slr (s : State) (x : RecordStore) : (s.withRst x).slr = s.slr := rfl
@[simp] theorem State.withRst_cc (s : State) (x : RecordStore) : (s.withRst x).cc = s.cc := rfl
@[simp] theorem State.withRst_axf (s : State) (x : RecordStore) : (s.withRst x).axf = s.axf := rfl
@[simp] theorem State.withRst_vb (s : State) (x : RecordStore) : (s.withRst x).vb = s.vb := rfl
@[simp] theorem State.withRst_vehicleNumber (s : State) (x : RecordStore) : (s.withRst x).vehicleNumber = s.vehicleNumber := rfl
@[simp] theorem State.withRst_ptm (s : State) (x : RecordStore) : (s.withRst x).ptm = s.ptm := rfl
@[simp] theorem State.withRst_dtk (s : State) (x : RecordStore) : (s.withRst x).dtk = s.dtk := rfl
@[simp] theorem State.withRst_rru (s : State) (x : RecordStore) : (s.withRst x).rru = s.rru := rfl
@[simp] theorem State.withRst_rst (s : State) (x : RecordStore) : (s.withRst x).rst = x := rfl
@[simp] theorem State.withRst_sea (s : State) (x : RecordStore) : (s.withRst x).sea = s.sea := rfl
@[simp] theorem State.withRst_port (s : State) (x : RecordStore) : (s.withRst x).port = s.port := rfl
@[simp] theorem State.withRst_startCause (s : State) (x : RecordStore) : (s.withRst x).startCause = s.startCause := rfl
@[simp] theorem State.withRst_sst (s : State) (x : RecordStore) : (s.withRst x).sst = s.sst := rfl
@[simp] theorem State.withRst_freeCount (s : State) (x : RecordStore) : (s.withRst x).freeCount = s.freeCount := rfl
@[simp] theorem State.withSea_pending (s : State) (x : Arbiter) : (s.withSea x).pending = s.pending := rfl
@[simp] theorem State.withSea_lines (s : State) (x : Arbiter) : (s.withSea x).lines = s.lines := rfl
@[simp] theorem State.withSea_sck (s : State) (x : Arbiter) : (s.withSea x).sck = s.sck := rfl
@[simp] theorem State.withSea_slr (s : State) (x : Arbiter) : (s.withSea x).slr = s.slr := rfl
@[simp] theorem State.withSea_cc (s : State) (x : Arbiter) : (s.withSea x).cc = s.cc := rfl
@[simp] theorem State.withSea_axf (s : State) (x : Arbiter) : (s.withSea x).axf = s.axf := rfl
@[simp] theorem State.withSea_vb (s : State) (x : Arbiter) : (s.withSea x).vb = s.vb := rfl
@[simp] theorem State.withSea_vehicleNumber (s : State) (x : Arbiter) : (s.withSea x).vehicleNumber = s.vehicleNumber := rfl
@[simp] theorem State.withSea_ptm (s : State) (x : Arbiter) : (s.withSea x).ptm = s.ptm := rfl
@[simp] theorem State.withSea_dtk (s : State) (x : Arbiter) : (s.withSea x).dtk = s.dtk := rfl
@[simp] theorem State.withSea_rru (s : State) (x : Arbiter) : (s.withSea x).rru = s.rru := rfl
@[simp] theorem State.withSea_rst (s : State) (x : Arbiter) : (s.withSea x).rst = s.rst := rfl
@[simp] theorem State.withSea_sea (s : State) (x : Arbiter) : (s.withSea x).sea = x := rfl
@[simp] theorem State.withSea_port (s : State) (x : Arbiter) : (s.withSea x).port = s.port := rfl
@[simp] theorem State.withSea_startCause (s : State) (x : Arbiter) : (s.withSea x).startCause = s.startCause := rfl
@[simp] theorem State.withSea_sst (s : State) (x : Arbiter) : (s.withSea x).sst = s.sst := rfl
@[simp] theorem State.withSea_freeCount (s : State) (x : Arbiter) : (s.withSea x).freeCount = s.freeCount := rfl
@[simp] theorem State.withPorts_pending (s : State) (x : PerPort SitePort) : (s.withPorts x).pending = s.pending := rfl
@[simp] theorem State.withPorts_lines (s : State) (x : PerPort SitePort) : (s.withPorts x).lines = s.lines := rfl
@[simp] theorem State.withPorts_sck (s : State) (x : PerPort SitePort) : (s.withPorts x).sck = s.sck := rfl
@[simp] theorem State.withPorts_slr (s : State) (x : PerPort SitePort) : (s.withPorts x).slr = s.slr := rfl
@[simp] theorem State.withPorts_cc (s : State) (x : PerPort SitePort) : (s.withPorts x).cc = s.cc := rfl
@[simp] theorem State.withPorts_axf (s : State) (x : PerPort SitePort) : (s.withPorts x).axf = s.axf := rfl
@[simp] theorem State.withPorts_vb (s : State) (x : PerPort SitePort) : (s.withPorts x).vb = s.vb := rfl
@[simp] theorem State.withPorts_vehicleNumber (s : State) (x : PerPort SitePort) : (s.withPorts x).vehicleNumber = s.vehicleNumber := rfl
@[simp] theorem State.withPorts_ptm (s : State) (x : PerPort SitePort) : (s.withPorts x).ptm = s.ptm := rfl
@[simp] theorem State.withPorts_dtk (s : State) (x : PerPort SitePort) : (s.withPorts x).dtk = s.dtk := rfl
@[simp] theorem State.withPorts_rru (s : State) (x : PerPort SitePort) : (s.withPorts x).rru = s.rru := rfl
@[simp] theorem State.withPorts_rst (s : State) (x : PerPort SitePort) : (s.withPorts x).rst = s.rst := rfl
@[simp] theorem State.withPorts_sea (s : State) (x : PerPort SitePort) : (s.withPorts x).sea = s.sea := rfl
@[simp] theorem State.withPorts_port (s : State) (x : PerPort SitePort) : (s.withPorts x).port = x := rfl
@[simp] theorem State.withPorts_startCause (s : State) (x : PerPort SitePort) : (s.withPorts x).startCause = s.startCause := rfl
@[simp] theorem State.withPorts_sst (s : State) (x : PerPort SitePort) : (s.withPorts x).sst = s.sst := rfl
@[simp] theorem State.withPorts_freeCount (s : State) (x : PerPort SitePort) : (s.withPorts x).freeCount = s.freeCount := rfl
@[simp] theorem State.withStartCause_pending (s : State) (x : StartCause) : (s.withStartCause x).pending = s.pending := rfl
@[simp] theorem State.withStartCause_lines (s : State) (x : StartCause) : (s.withStartCause x).lines = s.lines := rfl
@[simp] theorem State.withStartCause_sck (s : State) (x : StartCause) : (s.withStartCause x).sck = s.sck := rfl
@[simp] theorem State.withStartCause_slr (s : State) (x : StartCause) : (s.withStartCause x).slr = s.slr := rfl
@[simp] theorem State.withStartCause_cc (s : State) (x : StartCause) : (s.withStartCause x).cc = s.cc := rfl
@[simp] theorem State.withStartCause_axf (s : State) (x : StartCause) : (s.withStartCause x).axf = s.axf := rfl
@[simp] theorem State.withStartCause_vb (s : State) (x : StartCause) : (s.withStartCause x).vb = s.vb := rfl
@[simp] theorem State.withStartCause_vehicleNumber (s : State) (x : StartCause) : (s.withStartCause x).vehicleNumber = s.vehicleNumber := rfl
@[simp] theorem State.withStartCause_ptm (s : State) (x : StartCause) : (s.withStartCause x).ptm = s.ptm := rfl
@[simp] theorem State.withStartCause_dtk (s : State) (x : StartCause) : (s.withStartCause x).dtk = s.dtk := rfl
@[simp] theorem State.withStartCause_rru (s : State) (x : StartCause) : (s.withStartCause x).rru = s.rru := rfl
@[simp] theorem State.withStartCause_rst (s : State) (x : StartCause) : (s.withStartCause x).rst = s.rst := rfl
@[simp] theorem State.withStartCause_sea (s : State) (x : StartCause) : (s.withStartCause x).sea = s.sea := rfl
@[simp] theorem State.withStartCause_port (s : State) (x : StartCause) : (s.withStartCause x).port = s.port := rfl
@[simp] theorem State.withStartCause_startCause (s : State) (x : StartCause) : (s.withStartCause x).startCause = x := rfl
@[simp] theorem State.withStartCause_sst (s : State) (x : StartCause) : (s.withStartCause x).sst = s.sst := rfl
@[simp] theorem State.withStartCause_freeCount (s : State) (x : StartCause) : (s.withStartCause x).freeCount = s.freeCount := rfl
@[simp] theorem State.withSst_pending (s : State) (x : SettingsStore) : (s.withSst x).pending = s.pending := rfl
@[simp] theorem State.withSst_lines (s : State) (x : SettingsStore) : (s.withSst x).lines = s.lines := rfl
@[simp] theorem State.withSst_sck (s : State) (x : SettingsStore) : (s.withSst x).sck = s.sck := rfl
@[simp] theorem State.withSst_slr (s : State) (x : SettingsStore) : (s.withSst x).slr = s.slr := rfl
@[simp] theorem State.withSst_cc (s : State) (x : SettingsStore) : (s.withSst x).cc = s.cc := rfl
@[simp] theorem State.withSst_axf (s : State) (x : SettingsStore) : (s.withSst x).axf = s.axf := rfl
@[simp] theorem State.withSst_vb (s : State) (x : SettingsStore) : (s.withSst x).vb = s.vb := rfl
@[simp] theorem State.withSst_vehicleNumber (s : State) (x : SettingsStore) : (s.withSst x).vehicleNumber = s.vehicleNumber := rfl
@[simp] theorem State.withSst_ptm (s : State) (x : SettingsStore) : (s.withSst x).ptm = s.ptm := rfl
@[simp] theorem State.withSst_dtk (s : State) (x : SettingsStore) : (s.withSst x).dtk = s.dtk := rfl
@[simp] theorem State.withSst_rru (s : State) (x : SettingsStore) : (s.withSst x).rru = s.rru := rfl
@[simp] theorem State.withSst_rst (s : State) (x : SettingsStore) : (s.withSst x).rst = s.rst := rfl
@[simp] theorem State.withSst_sea (s : State) (x : SettingsStore) : (s.withSst x).sea = s.sea := rfl
@[simp] theorem State.withSst_port (s : State) (x : SettingsStore) : (s.withSst x).port = s.port := rfl
@[simp] theorem State.withSst_startCause (s : State) (x : SettingsStore) : (s.withSst x).startCause = s.startCause := rfl
@[simp] theorem State.withSst_sst (s : State) (x : SettingsStore) : (s.withSst x).sst = x := rfl
@[simp] theorem State.withSst_freeCount (s : State) (x : SettingsStore) : (s.withSst x).freeCount = s.freeCount := rfl
@[simp] theorem State.withFreeCount_pending (s : State) (x : Nat) : (s.withFreeCount x).pending = s.pending := rfl
@[simp] theorem State.withFreeCount_lines (s : State) (x : Nat) : (s.withFreeCount x).lines = s.lines := rfl
@[simp] theorem State.withFreeCount_sck (s : State) (x : Nat) : (s.withFreeCount x).sck = s.sck := rfl
@[simp] theorem State.withFreeCount_slr (s : State) (x : Nat) : (s.withFreeCount x).slr = s.slr := rfl
@[simp] theorem State.withFreeCount_cc (s : State) (x : Nat) : (s.withFreeCount x).cc = s.cc := rfl
@[simp] theorem State.withFreeCount_axf (s : State) (x : Nat) : (s.withFreeCount x).axf = s.axf := rfl
@[simp] theorem State.withFreeCount_vb (s : State) (x : Nat) : (s.withFreeCount x).vb = s.vb := rfl
@[simp] theorem State.withFreeCount_vehicleNumber (s : State) (x : Nat) : (s.withFreeCount x).vehicleNumber = s.vehicleNumber := rfl
@[simp] theorem State.withFreeCount_ptm (s : State) (x : Nat) : (s.withFreeCount x).ptm = s.ptm := rfl
@[simp] theorem State.withFreeCount_dtk (s : State) (x : Nat) : (s.withFreeCount x).dtk = s.dtk := rfl
@[simp] theorem State.withFreeCount_rru (s : State) (x : Nat) : (s.withFreeCount x).rru = s.rru := rfl
@[simp] theorem State.withFreeCount_rst (s : State) (x : Nat) : (s.withFreeCount x).rst = s.rst := rfl
@[simp] theorem State.withFreeCount_sea (s : State) (x : Nat) : (s.withFreeCount x).sea = s.sea := rfl
@[simp] theorem State.withFreeCount_port (s : State) (x : Nat) : (s.withFreeCount x).port = s.port := rfl
@[simp] theorem State.withFreeCount_startCause (s : State) (x : Nat) : (s.withFreeCount x).startCause = s.startCause := rfl
@[simp] theorem State.withFreeCount_sst (s : State) (x : Nat) : (s.withFreeCount x).sst = s.sst := rfl
@[simp] theorem State.withFreeCount_freeCount (s : State) (x : Nat) : (s.withFreeCount x).freeCount = x := rfl
@[simp] theorem State.withConditioner_pending (s : State) (k : Channel) (x : Conditioner) :
    (s.withConditioner k x).pending = s.pending := rfl
@[simp] theorem State.withConditioner_lines (s : State) (k : Channel) (x : Conditioner) :
    (s.withConditioner k x).lines = s.lines := rfl
@[simp] theorem State.withConditioner_sck (s : State) (k : Channel) (x : Conditioner) :
    (s.withConditioner k x).sck = s.sck := rfl
@[simp] theorem State.withConditioner_slr (s : State) (k : Channel) (x : Conditioner) :
    (s.withConditioner k x).slr = s.slr := rfl
@[simp] theorem State.withConditioner_cc (s : State) (k : Channel) (x : Conditioner) :
    (s.withConditioner k x).cc = setCh s.cc k x := rfl
@[simp] theorem State.withConditioner_axf (s : State) (k : Channel) (x : Conditioner) :
    (s.withConditioner k x).axf = s.axf := rfl
@[simp] theorem State.withConditioner_vb (s : State) (k : Channel) (x : Conditioner) :
    (s.withConditioner k x).vb = s.vb := rfl
@[simp] theorem State.withConditioner_vehicleNumber (s : State) (k : Channel) (x : Conditioner) :
    (s.withConditioner k x).vehicleNumber = s.vehicleNumber := rfl
@[simp] theorem State.withConditioner_ptm (s : State) (k : Channel) (x : Conditioner) :
    (s.withConditioner k x).ptm = s.ptm := rfl
@[simp] theorem State.withConditioner_dtk (s : State) (k : Channel) (x : Conditioner) :
    (s.withConditioner k x).dtk = s.dtk := rfl
@[simp] theorem State.withConditioner_rru (s : State) (k : Channel) (x : Conditioner) :
    (s.withConditioner k x).rru = s.rru := rfl
@[simp] theorem State.withConditioner_rst (s : State) (k : Channel) (x : Conditioner) :
    (s.withConditioner k x).rst = s.rst := rfl
@[simp] theorem State.withConditioner_sea (s : State) (k : Channel) (x : Conditioner) :
    (s.withConditioner k x).sea = s.sea := rfl
@[simp] theorem State.withConditioner_port (s : State) (k : Channel) (x : Conditioner) :
    (s.withConditioner k x).port = s.port := rfl
@[simp] theorem State.withConditioner_startCause (s : State) (k : Channel) (x : Conditioner) :
    (s.withConditioner k x).startCause = s.startCause := rfl
@[simp] theorem State.withConditioner_sst (s : State) (k : Channel) (x : Conditioner) :
    (s.withConditioner k x).sst = s.sst := rfl
@[simp] theorem State.withConditioner_freeCount (s : State) (k : Channel) (x : Conditioner) :
    (s.withConditioner k x).freeCount = s.freeCount := rfl
@[simp] theorem State.withFormer_pending (s : State) (k : Lane) (x : AxleFormer) :
    (s.withFormer k x).pending = s.pending := rfl
@[simp] theorem State.withFormer_lines (s : State) (k : Lane) (x : AxleFormer) :
    (s.withFormer k x).lines = s.lines := rfl
@[simp] theorem State.withFormer_sck (s : State) (k : Lane) (x : AxleFormer) :
    (s.withFormer k x).sck = s.sck := rfl
@[simp] theorem State.withFormer_slr (s : State) (k : Lane) (x : AxleFormer) :
    (s.withFormer k x).slr = s.slr := rfl
@[simp] theorem State.withFormer_cc (s : State) (k : Lane) (x : AxleFormer) :
    (s.withFormer k x).cc = s.cc := rfl
@[simp] theorem State.withFormer_axf (s : State) (k : Lane) (x : AxleFormer) :
    (s.withFormer k x).axf = s.axf.set k x := rfl
@[simp] theorem State.withFormer_vb (s : State) (k : Lane) (x : AxleFormer) :
    (s.withFormer k x).vb = s.vb := rfl
@[simp] theorem State.withFormer_vehicleNumber (s : State) (k : Lane) (x : AxleFormer) :
    (s.withFormer k x).vehicleNumber = s.vehicleNumber := rfl
@[simp] theorem State.withFormer_ptm (s : State) (k : Lane) (x : AxleFormer) :
    (s.withFormer k x).ptm = s.ptm := rfl
@[simp] theorem State.withFormer_dtk (s : State) (k : Lane) (x : AxleFormer) :
    (s.withFormer k x).dtk = s.dtk := rfl
@[simp] theorem State.withFormer_rru (s : State) (k : Lane) (x : AxleFormer) :
    (s.withFormer k x).rru = s.rru := rfl
@[simp] theorem State.withFormer_rst (s : State) (k : Lane) (x : AxleFormer) :
    (s.withFormer k x).rst = s.rst := rfl
@[simp] theorem State.withFormer_sea (s : State) (k : Lane) (x : AxleFormer) :
    (s.withFormer k x).sea = s.sea := rfl
@[simp] theorem State.withFormer_port (s : State) (k : Lane) (x : AxleFormer) :
    (s.withFormer k x).port = s.port := rfl
@[simp] theorem State.withFormer_startCause (s : State) (k : Lane) (x : AxleFormer) :
    (s.withFormer k x).startCause = s.startCause := rfl
@[simp] theorem State.withFormer_sst (s : State) (k : Lane) (x : AxleFormer) :
    (s.withFormer k x).sst = s.sst := rfl
@[simp] theorem State.withFormer_freeCount (s : State) (k : Lane) (x : AxleFormer) :
    (s.withFormer k x).freeCount = s.freeCount := rfl
@[simp] theorem State.withBuilder_pending (s : State) (k : Lane) (x : Builder) :
    (s.withBuilder k x).pending = s.pending := rfl
@[simp] theorem State.withBuilder_lines (s : State) (k : Lane) (x : Builder) :
    (s.withBuilder k x).lines = s.lines := rfl
@[simp] theorem State.withBuilder_sck (s : State) (k : Lane) (x : Builder) :
    (s.withBuilder k x).sck = s.sck := rfl
@[simp] theorem State.withBuilder_slr (s : State) (k : Lane) (x : Builder) :
    (s.withBuilder k x).slr = s.slr := rfl
@[simp] theorem State.withBuilder_cc (s : State) (k : Lane) (x : Builder) :
    (s.withBuilder k x).cc = s.cc := rfl
@[simp] theorem State.withBuilder_axf (s : State) (k : Lane) (x : Builder) :
    (s.withBuilder k x).axf = s.axf := rfl
@[simp] theorem State.withBuilder_vb (s : State) (k : Lane) (x : Builder) :
    (s.withBuilder k x).vb = s.vb.set k x := rfl
@[simp] theorem State.withBuilder_vehicleNumber (s : State) (k : Lane) (x : Builder) :
    (s.withBuilder k x).vehicleNumber = s.vehicleNumber := rfl
@[simp] theorem State.withBuilder_ptm (s : State) (k : Lane) (x : Builder) :
    (s.withBuilder k x).ptm = s.ptm := rfl
@[simp] theorem State.withBuilder_dtk (s : State) (k : Lane) (x : Builder) :
    (s.withBuilder k x).dtk = s.dtk := rfl
@[simp] theorem State.withBuilder_rru (s : State) (k : Lane) (x : Builder) :
    (s.withBuilder k x).rru = s.rru := rfl
@[simp] theorem State.withBuilder_rst (s : State) (k : Lane) (x : Builder) :
    (s.withBuilder k x).rst = s.rst := rfl
@[simp] theorem State.withBuilder_sea (s : State) (k : Lane) (x : Builder) :
    (s.withBuilder k x).sea = s.sea := rfl
@[simp] theorem State.withBuilder_port (s : State) (k : Lane) (x : Builder) :
    (s.withBuilder k x).port = s.port := rfl
@[simp] theorem State.withBuilder_startCause (s : State) (k : Lane) (x : Builder) :
    (s.withBuilder k x).startCause = s.startCause := rfl
@[simp] theorem State.withBuilder_sst (s : State) (k : Lane) (x : Builder) :
    (s.withBuilder k x).sst = s.sst := rfl
@[simp] theorem State.withBuilder_freeCount (s : State) (k : Lane) (x : Builder) :
    (s.withBuilder k x).freeCount = s.freeCount := rfl
@[simp] theorem State.withCtx_pending (s : State) (k : Lane) (x : Context) :
    (s.withCtx k x).pending = s.pending := rfl
@[simp] theorem State.withCtx_lines (s : State) (k : Lane) (x : Context) :
    (s.withCtx k x).lines = s.lines := rfl
@[simp] theorem State.withCtx_sck (s : State) (k : Lane) (x : Context) :
    (s.withCtx k x).sck = s.sck := rfl
@[simp] theorem State.withCtx_slr (s : State) (k : Lane) (x : Context) :
    (s.withCtx k x).slr = s.slr := rfl
@[simp] theorem State.withCtx_cc (s : State) (k : Lane) (x : Context) :
    (s.withCtx k x).cc = s.cc := rfl
@[simp] theorem State.withCtx_axf (s : State) (k : Lane) (x : Context) :
    (s.withCtx k x).axf = s.axf := rfl
@[simp] theorem State.withCtx_vb (s : State) (k : Lane) (x : Context) :
    (s.withCtx k x).vb = s.vb.set k { s.vb.get k with ctx := x } := rfl
@[simp] theorem State.withCtx_vehicleNumber (s : State) (k : Lane) (x : Context) :
    (s.withCtx k x).vehicleNumber = s.vehicleNumber := rfl
@[simp] theorem State.withCtx_ptm (s : State) (k : Lane) (x : Context) :
    (s.withCtx k x).ptm = s.ptm := rfl
@[simp] theorem State.withCtx_dtk (s : State) (k : Lane) (x : Context) :
    (s.withCtx k x).dtk = s.dtk := rfl
@[simp] theorem State.withCtx_rru (s : State) (k : Lane) (x : Context) :
    (s.withCtx k x).rru = s.rru := rfl
@[simp] theorem State.withCtx_rst (s : State) (k : Lane) (x : Context) :
    (s.withCtx k x).rst = s.rst := rfl
@[simp] theorem State.withCtx_sea (s : State) (k : Lane) (x : Context) :
    (s.withCtx k x).sea = s.sea := rfl
@[simp] theorem State.withCtx_port (s : State) (k : Lane) (x : Context) :
    (s.withCtx k x).port = s.port := rfl
@[simp] theorem State.withCtx_startCause (s : State) (k : Lane) (x : Context) :
    (s.withCtx k x).startCause = s.startCause := rfl
@[simp] theorem State.withCtx_sst (s : State) (k : Lane) (x : Context) :
    (s.withCtx k x).sst = s.sst := rfl
@[simp] theorem State.withCtx_freeCount (s : State) (k : Lane) (x : Context) :
    (s.withCtx k x).freeCount = s.freeCount := rfl
@[simp] theorem State.withTracker_pending (s : State) (k : Lane) (x : DriftTracker) :
    (s.withTracker k x).pending = s.pending := rfl
@[simp] theorem State.withTracker_lines (s : State) (k : Lane) (x : DriftTracker) :
    (s.withTracker k x).lines = s.lines := rfl
@[simp] theorem State.withTracker_sck (s : State) (k : Lane) (x : DriftTracker) :
    (s.withTracker k x).sck = s.sck := rfl
@[simp] theorem State.withTracker_slr (s : State) (k : Lane) (x : DriftTracker) :
    (s.withTracker k x).slr = s.slr := rfl
@[simp] theorem State.withTracker_cc (s : State) (k : Lane) (x : DriftTracker) :
    (s.withTracker k x).cc = s.cc := rfl
@[simp] theorem State.withTracker_axf (s : State) (k : Lane) (x : DriftTracker) :
    (s.withTracker k x).axf = s.axf := rfl
@[simp] theorem State.withTracker_vb (s : State) (k : Lane) (x : DriftTracker) :
    (s.withTracker k x).vb = s.vb := rfl
@[simp] theorem State.withTracker_vehicleNumber (s : State) (k : Lane) (x : DriftTracker) :
    (s.withTracker k x).vehicleNumber = s.vehicleNumber := rfl
@[simp] theorem State.withTracker_ptm (s : State) (k : Lane) (x : DriftTracker) :
    (s.withTracker k x).ptm = s.ptm := rfl
@[simp] theorem State.withTracker_dtk (s : State) (k : Lane) (x : DriftTracker) :
    (s.withTracker k x).dtk = s.dtk.set k x := rfl
@[simp] theorem State.withTracker_rru (s : State) (k : Lane) (x : DriftTracker) :
    (s.withTracker k x).rru = s.rru := rfl
@[simp] theorem State.withTracker_rst (s : State) (k : Lane) (x : DriftTracker) :
    (s.withTracker k x).rst = s.rst := rfl
@[simp] theorem State.withTracker_sea (s : State) (k : Lane) (x : DriftTracker) :
    (s.withTracker k x).sea = s.sea := rfl
@[simp] theorem State.withTracker_port (s : State) (k : Lane) (x : DriftTracker) :
    (s.withTracker k x).port = s.port := rfl
@[simp] theorem State.withTracker_startCause (s : State) (k : Lane) (x : DriftTracker) :
    (s.withTracker k x).startCause = s.startCause := rfl
@[simp] theorem State.withTracker_sst (s : State) (k : Lane) (x : DriftTracker) :
    (s.withTracker k x).sst = s.sst := rfl
@[simp] theorem State.withTracker_freeCount (s : State) (k : Lane) (x : DriftTracker) :
    (s.withTracker k x).freeCount = s.freeCount := rfl
@[simp] theorem State.withPort_pending (s : State) (k : Port) (x : SitePort) :
    (s.withPort k x).pending = s.pending := rfl
@[simp] theorem State.withPort_lines (s : State) (k : Port) (x : SitePort) :
    (s.withPort k x).lines = s.lines := rfl
@[simp] theorem State.withPort_sck (s : State) (k : Port) (x : SitePort) :
    (s.withPort k x).sck = s.sck := rfl
@[simp] theorem State.withPort_slr (s : State) (k : Port) (x : SitePort) :
    (s.withPort k x).slr = s.slr := rfl
@[simp] theorem State.withPort_cc (s : State) (k : Port) (x : SitePort) :
    (s.withPort k x).cc = s.cc := rfl
@[simp] theorem State.withPort_axf (s : State) (k : Port) (x : SitePort) :
    (s.withPort k x).axf = s.axf := rfl
@[simp] theorem State.withPort_vb (s : State) (k : Port) (x : SitePort) :
    (s.withPort k x).vb = s.vb := rfl
@[simp] theorem State.withPort_vehicleNumber (s : State) (k : Port) (x : SitePort) :
    (s.withPort k x).vehicleNumber = s.vehicleNumber := rfl
@[simp] theorem State.withPort_ptm (s : State) (k : Port) (x : SitePort) :
    (s.withPort k x).ptm = s.ptm := rfl
@[simp] theorem State.withPort_dtk (s : State) (k : Port) (x : SitePort) :
    (s.withPort k x).dtk = s.dtk := rfl
@[simp] theorem State.withPort_rru (s : State) (k : Port) (x : SitePort) :
    (s.withPort k x).rru = s.rru := rfl
@[simp] theorem State.withPort_rst (s : State) (k : Port) (x : SitePort) :
    (s.withPort k x).rst = s.rst := rfl
@[simp] theorem State.withPort_sea (s : State) (k : Port) (x : SitePort) :
    (s.withPort k x).sea = s.sea := rfl
@[simp] theorem State.withPort_port (s : State) (k : Port) (x : SitePort) :
    (s.withPort k x).port = s.port.set k x := rfl
@[simp] theorem State.withPort_startCause (s : State) (k : Port) (x : SitePort) :
    (s.withPort k x).startCause = s.startCause := rfl
@[simp] theorem State.withPort_sst (s : State) (k : Port) (x : SitePort) :
    (s.withPort k x).sst = s.sst := rfl
@[simp] theorem State.withPort_freeCount (s : State) (k : Port) (x : SitePort) :
    (s.withPort k x).freeCount = s.freeCount := rfl
@[simp] theorem State.withSlot_pending (s : State) (k : Channel) (x : Slot) :
    (s.withSlot k x).pending = s.pending := rfl
@[simp] theorem State.withSlot_lines (s : State) (k : Channel) (x : Slot) :
    (s.withSlot k x).lines = s.lines := rfl
@[simp] theorem State.withSlot_sck (s : State) (k : Channel) (x : Slot) :
    (s.withSlot k x).sck = s.sck := rfl
@[simp] theorem State.withSlot_slr (s : State) (k : Channel) (x : Slot) :
    (s.withSlot k x).slr = s.slr := rfl
@[simp] theorem State.withSlot_cc (s : State) (k : Channel) (x : Slot) :
    (s.withSlot k x).cc = s.cc := rfl
@[simp] theorem State.withSlot_axf (s : State) (k : Channel) (x : Slot) :
    (s.withSlot k x).axf = s.axf.set k.lane { s.axf.get k.lane with slots := (s.axf.get k.lane).slots.set k.row k.side x } := rfl
@[simp] theorem State.withSlot_vb (s : State) (k : Channel) (x : Slot) :
    (s.withSlot k x).vb = s.vb := rfl
@[simp] theorem State.withSlot_vehicleNumber (s : State) (k : Channel) (x : Slot) :
    (s.withSlot k x).vehicleNumber = s.vehicleNumber := rfl
@[simp] theorem State.withSlot_ptm (s : State) (k : Channel) (x : Slot) :
    (s.withSlot k x).ptm = s.ptm := rfl
@[simp] theorem State.withSlot_dtk (s : State) (k : Channel) (x : Slot) :
    (s.withSlot k x).dtk = s.dtk := rfl
@[simp] theorem State.withSlot_rru (s : State) (k : Channel) (x : Slot) :
    (s.withSlot k x).rru = s.rru := rfl
@[simp] theorem State.withSlot_rst (s : State) (k : Channel) (x : Slot) :
    (s.withSlot k x).rst = s.rst := rfl
@[simp] theorem State.withSlot_sea (s : State) (k : Channel) (x : Slot) :
    (s.withSlot k x).sea = s.sea := rfl
@[simp] theorem State.withSlot_port (s : State) (k : Channel) (x : Slot) :
    (s.withSlot k x).port = s.port := rfl
@[simp] theorem State.withSlot_startCause (s : State) (k : Channel) (x : Slot) :
    (s.withSlot k x).startCause = s.startCause := rfl
@[simp] theorem State.withSlot_sst (s : State) (k : Channel) (x : Slot) :
    (s.withSlot k x).sst = s.sst := rfl
@[simp] theorem State.withSlot_freeCount (s : State) (k : Channel) (x : Slot) :
    (s.withSlot k x).freeCount = s.freeCount := rfl
@[simp] theorem State.withUpstream_pending (s : State) (k : Lane) (x : List RowPulse) :
    (s.withUpstream k x).pending = s.pending := rfl
@[simp] theorem State.withUpstream_lines (s : State) (k : Lane) (x : List RowPulse) :
    (s.withUpstream k x).lines = s.lines := rfl
@[simp] theorem State.withUpstream_sck (s : State) (k : Lane) (x : List RowPulse) :
    (s.withUpstream k x).sck = s.sck := rfl
@[simp] theorem State.withUpstream_slr (s : State) (k : Lane) (x : List RowPulse) :
    (s.withUpstream k x).slr = s.slr := rfl
@[simp] theorem State.withUpstream_cc (s : State) (k : Lane) (x : List RowPulse) :
    (s.withUpstream k x).cc = s.cc := rfl
@[simp] theorem State.withUpstream_axf (s : State) (k : Lane) (x : List RowPulse) :
    (s.withUpstream k x).axf = s.axf.set k { s.axf.get k with upstream := x } := rfl
@[simp] theorem State.withUpstream_vb (s : State) (k : Lane) (x : List RowPulse) :
    (s.withUpstream k x).vb = s.vb := rfl
@[simp] theorem State.withUpstream_vehicleNumber (s : State) (k : Lane) (x : List RowPulse) :
    (s.withUpstream k x).vehicleNumber = s.vehicleNumber := rfl
@[simp] theorem State.withUpstream_ptm (s : State) (k : Lane) (x : List RowPulse) :
    (s.withUpstream k x).ptm = s.ptm := rfl
@[simp] theorem State.withUpstream_dtk (s : State) (k : Lane) (x : List RowPulse) :
    (s.withUpstream k x).dtk = s.dtk := rfl
@[simp] theorem State.withUpstream_rru (s : State) (k : Lane) (x : List RowPulse) :
    (s.withUpstream k x).rru = s.rru := rfl
@[simp] theorem State.withUpstream_rst (s : State) (k : Lane) (x : List RowPulse) :
    (s.withUpstream k x).rst = s.rst := rfl
@[simp] theorem State.withUpstream_sea (s : State) (k : Lane) (x : List RowPulse) :
    (s.withUpstream k x).sea = s.sea := rfl
@[simp] theorem State.withUpstream_port (s : State) (k : Lane) (x : List RowPulse) :
    (s.withUpstream k x).port = s.port := rfl
@[simp] theorem State.withUpstream_startCause (s : State) (k : Lane) (x : List RowPulse) :
    (s.withUpstream k x).startCause = s.startCause := rfl
@[simp] theorem State.withUpstream_sst (s : State) (k : Lane) (x : List RowPulse) :
    (s.withUpstream k x).sst = s.sst := rfl
@[simp] theorem State.withUpstream_freeCount (s : State) (k : Lane) (x : List RowPulse) :
    (s.withUpstream k x).freeCount = s.freeCount := rfl
@[simp] theorem State.withKey_pending (s : State) (b : Bool) : (s.withKey b).pending = s.pending := rfl
@[simp] theorem State.withKey_lines (s : State) (b : Bool) : (s.withKey b).lines = { s.lines with key := b } := rfl
@[simp] theorem State.withKey_sck (s : State) (b : Bool) : (s.withKey b).sck = s.sck := rfl
@[simp] theorem State.withKey_slr (s : State) (b : Bool) : (s.withKey b).slr = s.slr := rfl
@[simp] theorem State.withKey_cc (s : State) (b : Bool) : (s.withKey b).cc = s.cc := rfl
@[simp] theorem State.withKey_axf (s : State) (b : Bool) : (s.withKey b).axf = s.axf := rfl
@[simp] theorem State.withKey_vb (s : State) (b : Bool) : (s.withKey b).vb = s.vb := rfl
@[simp] theorem State.withKey_vehicleNumber (s : State) (b : Bool) : (s.withKey b).vehicleNumber = s.vehicleNumber := rfl
@[simp] theorem State.withKey_ptm (s : State) (b : Bool) : (s.withKey b).ptm = s.ptm := rfl
@[simp] theorem State.withKey_dtk (s : State) (b : Bool) : (s.withKey b).dtk = s.dtk := rfl
@[simp] theorem State.withKey_rru (s : State) (b : Bool) : (s.withKey b).rru = s.rru := rfl
@[simp] theorem State.withKey_rst (s : State) (b : Bool) : (s.withKey b).rst = s.rst := rfl
@[simp] theorem State.withKey_sea (s : State) (b : Bool) : (s.withKey b).sea = s.sea := rfl
@[simp] theorem State.withKey_port (s : State) (b : Bool) : (s.withKey b).port = s.port := rfl
@[simp] theorem State.withKey_startCause (s : State) (b : Bool) : (s.withKey b).startCause = s.startCause := rfl
@[simp] theorem State.withKey_sst (s : State) (b : Bool) : (s.withKey b).sst = s.sst := rfl
@[simp] theorem State.withKey_freeCount (s : State) (b : Bool) : (s.withKey b).freeCount = s.freeCount := rfl
@[simp] theorem latchAt_pending (p : Port) (c : Condition) (s : State) :
    (latchAt p c s).pending = s.pending := rfl
@[simp] theorem latchAt_lines (p : Port) (c : Condition) (s : State) :
    (latchAt p c s).lines = s.lines := rfl
@[simp] theorem latchAt_sck (p : Port) (c : Condition) (s : State) :
    (latchAt p c s).sck = s.sck := rfl
@[simp] theorem latchAt_slr (p : Port) (c : Condition) (s : State) :
    (latchAt p c s).slr = s.slr := rfl
@[simp] theorem latchAt_cc (p : Port) (c : Condition) (s : State) :
    (latchAt p c s).cc = s.cc := rfl
@[simp] theorem latchAt_axf (p : Port) (c : Condition) (s : State) :
    (latchAt p c s).axf = s.axf := rfl
@[simp] theorem latchAt_vb (p : Port) (c : Condition) (s : State) :
    (latchAt p c s).vb = s.vb := rfl
@[simp] theorem latchAt_vehicleNumber (p : Port) (c : Condition) (s : State) :
    (latchAt p c s).vehicleNumber = s.vehicleNumber := rfl
@[simp] theorem latchAt_ptm (p : Port) (c : Condition) (s : State) :
    (latchAt p c s).ptm = s.ptm := rfl
@[simp] theorem latchAt_dtk (p : Port) (c : Condition) (s : State) :
    (latchAt p c s).dtk = s.dtk := rfl
@[simp] theorem latchAt_rru (p : Port) (c : Condition) (s : State) :
    (latchAt p c s).rru = s.rru := rfl
@[simp] theorem latchAt_rst (p : Port) (c : Condition) (s : State) :
    (latchAt p c s).rst = s.rst := rfl
@[simp] theorem latchAt_sea (p : Port) (c : Condition) (s : State) :
    (latchAt p c s).sea = s.sea := rfl
@[simp] theorem latchAt_port (p : Port) (c : Condition) (s : State) :
    (latchAt p c s).port = s.port.set p ((s.port.get p).latch c) := rfl
@[simp] theorem latchAt_startCause (p : Port) (c : Condition) (s : State) :
    (latchAt p c s).startCause = s.startCause := rfl
@[simp] theorem latchAt_sst (p : Port) (c : Condition) (s : State) :
    (latchAt p c s).sst = s.sst := rfl
@[simp] theorem latchAt_freeCount (p : Port) (c : Condition) (s : State) :
    (latchAt p c s).freeCount = s.freeCount := rfl
@[simp] theorem latchDetail_pending (d : Detail) (s : State) :
    (latchDetail d s).pending = s.pending := rfl
@[simp] theorem latchDetail_lines (d : Detail) (s : State) :
    (latchDetail d s).lines = s.lines := rfl
@[simp] theorem latchDetail_sck (d : Detail) (s : State) :
    (latchDetail d s).sck = s.sck := rfl
@[simp] theorem latchDetail_slr (d : Detail) (s : State) :
    (latchDetail d s).slr = s.slr := rfl
@[simp] theorem latchDetail_cc (d : Detail) (s : State) :
    (latchDetail d s).cc = s.cc := rfl
@[simp] theorem latchDetail_axf (d : Detail) (s : State) :
    (latchDetail d s).axf = s.axf := rfl
@[simp] theorem latchDetail_vb (d : Detail) (s : State) :
    (latchDetail d s).vb = s.vb := rfl
@[simp] theorem latchDetail_vehicleNumber (d : Detail) (s : State) :
    (latchDetail d s).vehicleNumber = s.vehicleNumber := rfl
@[simp] theorem latchDetail_ptm (d : Detail) (s : State) :
    (latchDetail d s).ptm = s.ptm := rfl
@[simp] theorem latchDetail_dtk (d : Detail) (s : State) :
    (latchDetail d s).dtk = s.dtk := rfl
@[simp] theorem latchDetail_rru (d : Detail) (s : State) :
    (latchDetail d s).rru = s.rru := rfl
@[simp] theorem latchDetail_rst (d : Detail) (s : State) :
    (latchDetail d s).rst = s.rst := rfl
@[simp] theorem latchDetail_sea (d : Detail) (s : State) :
    (latchDetail d s).sea = s.sea := rfl
@[simp] theorem latchDetail_port (d : Detail) (s : State) :
    (latchDetail d s).port = s.port.mapI fun _ q => q.latchDetail d := rfl
@[simp] theorem latchDetail_startCause (d : Detail) (s : State) :
    (latchDetail d s).startCause = s.startCause := rfl
@[simp] theorem latchDetail_sst (d : Detail) (s : State) :
    (latchDetail d s).sst = s.sst := rfl
@[simp] theorem latchDetail_freeCount (d : Detail) (s : State) :
    (latchDetail d s).freeCount = s.freeCount := rfl
@[simp] theorem latchDetailIf_pending (b : Bool) (d : Detail) (s : State) :
    (latchDetailIf b d s).pending = s.pending := by cases b <;> rfl
@[simp] theorem latchDetailIf_lines (b : Bool) (d : Detail) (s : State) :
    (latchDetailIf b d s).lines = s.lines := by cases b <;> rfl
@[simp] theorem latchDetailIf_sck (b : Bool) (d : Detail) (s : State) :
    (latchDetailIf b d s).sck = s.sck := by cases b <;> rfl
@[simp] theorem latchDetailIf_slr (b : Bool) (d : Detail) (s : State) :
    (latchDetailIf b d s).slr = s.slr := by cases b <;> rfl
@[simp] theorem latchDetailIf_cc (b : Bool) (d : Detail) (s : State) :
    (latchDetailIf b d s).cc = s.cc := by cases b <;> rfl
@[simp] theorem latchDetailIf_axf (b : Bool) (d : Detail) (s : State) :
    (latchDetailIf b d s).axf = s.axf := by cases b <;> rfl
@[simp] theorem latchDetailIf_vb (b : Bool) (d : Detail) (s : State) :
    (latchDetailIf b d s).vb = s.vb := by cases b <;> rfl
@[simp] theorem latchDetailIf_vehicleNumber (b : Bool) (d : Detail) (s : State) :
    (latchDetailIf b d s).vehicleNumber = s.vehicleNumber := by cases b <;> rfl
@[simp] theorem latchDetailIf_ptm (b : Bool) (d : Detail) (s : State) :
    (latchDetailIf b d s).ptm = s.ptm := by cases b <;> rfl
@[simp] theorem latchDetailIf_dtk (b : Bool) (d : Detail) (s : State) :
    (latchDetailIf b d s).dtk = s.dtk := by cases b <;> rfl
@[simp] theorem latchDetailIf_rru (b : Bool) (d : Detail) (s : State) :
    (latchDetailIf b d s).rru = s.rru := by cases b <;> rfl
@[simp] theorem latchDetailIf_rst (b : Bool) (d : Detail) (s : State) :
    (latchDetailIf b d s).rst = s.rst := by cases b <;> rfl
@[simp] theorem latchDetailIf_sea (b : Bool) (d : Detail) (s : State) :
    (latchDetailIf b d s).sea = s.sea := by cases b <;> rfl
theorem latchDetailIf_port (b : Bool) (d : Detail) (s : State) :
    (latchDetailIf b d s).port = if b then s.port.mapI fun _ q => q.latchDetail d else s.port := by cases b <;> rfl
@[simp] theorem latchDetailIf_startCause (b : Bool) (d : Detail) (s : State) :
    (latchDetailIf b d s).startCause = s.startCause := by cases b <;> rfl
@[simp] theorem latchDetailIf_sst (b : Bool) (d : Detail) (s : State) :
    (latchDetailIf b d s).sst = s.sst := by cases b <;> rfl
@[simp] theorem latchDetailIf_freeCount (b : Bool) (d : Detail) (s : State) :
    (latchDetailIf b d s).freeCount = s.freeCount := by cases b <;> rfl

end Machine

end Sys2Proof
end

