-- ==== Sys2Proof/Laws/Frames.lean ====
section
/-! SUPPORT. What the operations along the data path (receiver, conditioners, axle formers, vehicle builders, monitor) can change:
for each operation the parts of State it may touch, every other part being as before; and what the upstream list's operations give. -/

namespace Sys2Proof.Machine

/-! ### Agreement outside named parts -/

theorem AgreeOutside.refl (L : List Part) (s : State) : AgreeOutside L s s := by
  intro x _; cases x <;> rfl

theorem AgreeOutside.trans {L : List Part} {s t u : State} (h : AgreeOutside L s t) (k : AgreeOutside L t u) :
    AgreeOutside L s u := by
  intro x hx
  have a := h x hx
  have b := k x hx
  cases x <;> exact Eq.trans b a

theorem AgreeOutside.mono {L M : List Part} {s t : State} (h : AgreeOutside L s t) (sub : ∀ x ∈ L, x ∈ M) :
    AgreeOutside M s t := fun x hx => h x fun hl => hx (sub x hl)

theorem agreeOutside_foldl {α : Type} {L : List Part} (f : State → α → State) (h : ∀ s a, AgreeOutside L s (f s a)) :
    ∀ (xs : List α) (s : State), AgreeOutside L s (xs.foldl f s)
  | [], s => .refl L s
  | a :: rest, s => (h s a).trans (agreeOutside_foldl f h rest (f s a))

theorem agreeOutside_ite {L : List Part} {s t u : State} (c : Prop) [Decidable c] (h : AgreeOutside L s t)
    (k : AgreeOutside L s u) : AgreeOutside L s (if c then t else u) := by split <;> assumption

theorem sealing_in_former : ∀ x ∈ sealingChanges, x ∈ formerChanges := by decide
theorem former_in_traffic : ∀ x ∈ formerChanges, x ∈ trafficChanges := by decide
theorem sealing_in_traffic : ∀ x ∈ sealingChanges, x ∈ trafficChanges := by decide

/-! ### Latching -/

theorem latchDetailIf_frame (b : Bool) (d : Detail) (s : State) : AgreeOutside [.port] s (latchDetailIf b d s) := by
  intro x hx; cases x <;> simp_all [Agree]

theorem latchDetail_frame (d : Detail) (s : State) : AgreeOutside [.port] s (latchDetail d s) := by
  intro x hx; cases x <;> simp_all [Agree]

/-! ### The takers of an announcement (R117) -/

theorem queueTake_frame (a : Announcement) (s : State) : AgreeOutside [.rst, .port] s (queueTake a s) := by
  intro x hx; unfold queueTake; split <;> cases x <;> simp_all [Agree]

theorem runTake_frame (a : Announcement) (s : State) : AgreeOutside [.rru, .port] s (runTake a s) := by
  intro x hx; unfold runTake; dsimp only; repeat' split
  all_goals (cases x <;> simp_all [Agree])

theorem latchDriftProposal_frame (s : State) : AgreeOutside [.port] s (latchDriftProposal s) := by
  intro x hx; cases x <;> simp_all [Agree, latchDriftProposal]

theorem evaluateWindow_frame (l : Lane) (w : List Nat) (s : State) : AgreeOutside [.dtk, .port] s (evaluateWindow l w s) := by
  intro x hx; unfold evaluateWindow latchDriftProposal; dsimp only; repeat' split
  all_goals (cases x <;> simp_all [Agree])

theorem driftTake_frame (a : Announcement) (s : State) : AgreeOutside [.dtk, .port] s (driftTake a s) := by
  unfold driftTake; dsimp only; repeat' split
  · intro x hx; cases x <;> simp_all [Agree]
  · exact evaluateWindow_frame _ _ _
  · exact .refl _ _

theorem fireTrigger_frame (l : Lane) (s : State) : AgreeOutside [.vb] s (fireTrigger l s) := by
  intro x hx; cases x <;> simp_all [Agree, fireTrigger]

theorem triggerOnOpen_frame (l : Lane) (s : State) : AgreeOutside [.vb] s (triggerOnOpen l s) := by
  unfold triggerOnOpen; split <;> first | exact fireTrigger_frame _ _ | exact .refl _ _

theorem triggerOnVerdict_frame (l : Lane) (v : Verdict) (s : State) : AgreeOutside [.vb] s (triggerOnVerdict l v s) := by
  unfold triggerOnVerdict; split <;> first | exact fireTrigger_frame _ _ | exact .refl _ _

theorem announce_frame (a : Announcement) (s : State) : AgreeOutside sealingChanges s (announce a s) :=
  (((queueTake_frame a s).mono (by decide)).trans ((runTake_frame a _).mono (by decide))).trans
    ((driftTake_frame a _).mono (by decide))

theorem withVehicleNumber_frame (n : Nat) (s : State) : AgreeOutside sealingChanges s (s.withVehicleNumber n) := by
  intro x hx; cases x <;> simp_all [Agree, sealingChanges]

theorem numberAndAnnounce_frame (a : Announcement) (s : State) : AgreeOutside sealingChanges s (numberAndAnnounce a s) := by
  refine AgreeOutside.trans ?_ ((triggerOnVerdict_frame _ _ _).mono (by decide))
  split
  · exact (withVehicleNumber_frame _ _).trans (announce_frame _ _)
  · exact (latchDetail_frame _ _).mono (by decide)

/-! ### The vehicle builders -/

theorem withCtx_frame (l : Lane) (c : Context) (s : State) : AgreeOutside [.vb] s (s.withCtx l c) := by
  intro x hx; cases x <;> simp_all [Agree]

theorem withBuilder_frame (l : Lane) (b : Builder) (s : State) : AgreeOutside [.vb] s (s.withBuilder l b) := by
  intro x hx; cases x <;> simp_all [Agree]

theorem sealInto_frame (l : Lane) (f : BitVec 24) (c : Context) (s : State) : AgreeOutside sealingChanges s (sealInto l f c s) := by
  unfold sealInto; dsimp only; split
  · exact (withCtx_frame _ _ _).mono (by decide)
  · exact ((withCtx_frame _ _ _).mono (by decide)).trans (numberAndAnnounce_frame _ _)

theorem disturb_frame (l : Lane) (f : BitVec 24) (s : State) : AgreeOutside sealingChanges s (disturb l f s) := by
  unfold disturb; split
  · exact .refl _ _
  · exact sealInto_frame _ _ _ _

theorem openLoopVehicle_frame (l : Lane) (s : State) : AgreeOutside [.vb] s (openLoopVehicle l s) :=
  (withCtx_frame _ _ _).trans (triggerOnOpen_frame _ _)

theorem openLooplessVehicle_frame (l : Lane) (a : Axle) (s : State) : AgreeOutside [.vb] s (openLooplessVehicle l a s) :=
  (withCtx_frame _ _ _).trans (triggerOnOpen_frame _ _)

theorem placeAxle_frame (l : Lane) (a : Axle) (s : State) : AgreeOutside sealingChanges s (placeAxle l a s) := by
  unfold placeAxle; dsimp only; repeat' split
  · exact (openLooplessVehicle_frame _ _ _).mono (by decide)
  · exact (withCtx_frame _ _ _).mono (by decide)
  · exact (sealInto_frame _ _ _ _).trans ((triggerOnOpen_frame _ _).mono (by decide))
  · exact sealInto_frame _ _ _ _
  · exact (withCtx_frame _ _ _).mono (by decide)

theorem riseNotice_frame (b : Bool) (l : Lane) (s : State) : AgreeOutside sealingChanges s (riseNotice b l s) := by
  unfold riseNotice; dsimp only; repeat' split
  · exact .refl _ _
  · exact disturb_frame _ _ _
  · exact (withCtx_frame _ _ _).mono (by decide)

theorem riseNotices_frame (lanes : PerLane Bool) (s : State) : AgreeOutside sealingChanges s (riseNotices lanes s) :=
  agreeOutside_foldl _ (fun s l => riseNotice_frame _ l s) _ _

theorem takeOlderAxle_frame (l : Lane) (a : Axle) (s : State) : AgreeOutside sealingChanges s (takeOlderAxle l a s) := by
  unfold takeOlderAxle; dsimp only
  refine AgreeOutside.trans (t := if (s.ctx l).axles.isEmpty then s else disturb l VFlag.settingsChanged s)
    (agreeOutside_ite _ (.refl _ _) (disturb_frame _ _ _)) ?_
  exact ((placeAxle_frame _ _ _).trans ((withCtx_frame _ _ _).mono (by decide))).trans (disturb_frame _ _ _)

theorem axleArrival_frame (l : Lane) (a : Axle) (s : State) : AgreeOutside sealingChanges s (axleArrival l a s) := by
  unfold axleArrival; repeat' split
  · exact .refl _ _
  · exact placeAxle_frame _ _ _
  · exact (riseNotice_frame _ _ _).trans (placeAxle_frame _ _ _)
  · exact takeOlderAxle_frame _ _ _

@[simp] theorem State.arrivals_nil (s : State) (l : Lane) : s.arrivals l [] = s := rfl
@[simp] theorem State.arrivals_cons (s : State) (l : Lane) (a : Axle) (as : List Axle) :
    s.arrivals l (a :: as) = (axleArrival l a s).arrivals l as := rfl

theorem arrivals_frame (l : Lane) (as : List Axle) (s : State) : AgreeOutside sealingChanges s (s.arrivals l as) :=
  agreeOutside_foldl _ (fun s a => axleArrival_frame l a s) as s

theorem deferCheck_frame (l : Lane) (s : State) : AgreeOutside sealingChanges s (deferCheck l s) := by
  unfold deferCheck; split
  · exact sealInto_frame _ _ _ _
  · exact .refl _ _

theorem deferChecks_frame (before s : State) : AgreeOutside sealingChanges s (deferChecks before s) :=
  agreeOutside_foldl _ (fun _ l => agreeOutside_ite _ (.refl _ _) (deferCheck_frame l _)) _ _

theorem closeVehicle_frame (l : Lane) (s : State) : AgreeOutside sealingChanges s (closeVehicle l s) :=
  agreeOutside_ite _ ((withCtx_frame _ _ _).mono (by decide)) (sealInto_frame _ _ _ _)

theorem closeTimerExpiry_frame (l : Lane) (s : State) : AgreeOutside sealingChanges s (closeTimerExpiry l s) :=
  agreeOutside_ite _ (((withCtx_frame _ _ _).mono (by decide)).trans (closeVehicle_frame _ _)) (.refl _ _)

theorem abandonmentNotice_frame (l : Lane) (s : State) : AgreeOutside [.vb] s (abandonmentNotice l s) := by
  unfold abandonmentNotice; split
  · exact .refl _ _
  · exact withCtx_frame _ _ _

theorem linkLossNotice_frame (l : Lane) (s : State) : AgreeOutside sealingChanges s (linkLossNotice l s) := disturb_frame _ _ _

theorem loopPresent_frame (l : Lane) (s : State) : AgreeOutside [.vb] s (loopPresent l s) := by
  unfold loopPresent; dsimp only; repeat' split
  · exact openLoopVehicle_frame _ _
  · exact .refl _ _
  · exact .refl _ _
  · exact withCtx_frame _ _ _
  · exact withCtx_frame _ _ _

theorem loopAbsent_frame (l : Lane) (s : State) : AgreeOutside [.vb] s (loopAbsent l s) := by
  unfold loopAbsent; dsimp only; split
  · exact withCtx_frame _ _ _
  · exact .refl _ _

theorem loopChange_frame (l : Lane) (s : State) : AgreeOutside [.vb] s (loopChange l s) := by
  unfold loopChange; dsimp only; repeat' split
  · exact .refl _ _
  · exact withBuilder_frame _ _ _
  · exact (withBuilder_frame _ _ _).trans (loopAbsent_frame _ _)
  · exact withBuilder_frame _ _ _
  · exact (withBuilder_frame _ _ _).trans (loopPresent_frame _ _)

theorem loopFaultEntry_frame (l : Lane) (s : State) : AgreeOutside [.vb, .port] s (loopFaultEntry l s) := by
  unfold loopFaultEntry; dsimp only; split
  · exact ((withBuilder_frame _ _ _).mono (by decide)).trans ((latchDetail_frame _ _).mono (by decide))
  · exact .refl _ _

theorem triggerPulseEnd_frame (l : Lane) (s : State) : AgreeOutside [.vb] s (triggerPulseEnd l s) := by
  unfold triggerPulseEnd; split
  · exact withBuilder_frame _ _ _
  · exact .refl _ _

theorem endRunIf_frame (b : Bool) (r : RunResult) (s : State) : AgreeOutside [.rru] s (endRunIf b r s) := by
  intro x hx; unfold endRunIf; split <;> cases x <;> simp_all [Agree]

theorem setLaneMode_frame (m : LaneMode) (l : Lane) (s : State) : AgreeOutside sealingChanges s (setLaneMode m l s) := by
  unfold setLaneMode; dsimp only; split
  · exact .refl _ _
  · cases m
    · dsimp only; split
      · exact ((withBuilder_frame _ _ _).trans (openLoopVehicle_frame _ _)).mono (by decide)
      · exact (withBuilder_frame _ _ _).mono (by decide)
    · dsimp only
      refine AgreeOutside.trans (t := if (s.builder l).ctx.state = .idle then s else sealInto l VFlag.laneClosed .idle s)
        (agreeOutside_ite _ (.refl _ _) (sealInto_frame _ _ _ _)) ?_
      exact ((withBuilder_frame _ _ _).mono (by decide)).trans ((endRunIf_frame _ _ _).mono (by decide))

/-! ### The axle formers -/

theorem withFormer_frame (l : Lane) (f : AxleFormer) (s : State) : AgreeOutside [.axf] s (s.withFormer l f) := by
  intro x hx; cases x <;> simp_all [Agree]

theorem withSlot_frame (c : Channel) (x : Slot) (s : State) : AgreeOutside [.axf] s (s.withSlot c x) := withFormer_frame _ _ _

theorem withUpstream_frame (l : Lane) (x : List RowPulse) (s : State) : AgreeOutside [.axf] s (s.withUpstream l x) :=
  withFormer_frame _ _ _

theorem countMiss_frame (c : Channel) (s : State) : AgreeOutside [.axf, .port] s (countMiss c s) := by
  unfold countMiss; dsimp only; split
  · exact ((withFormer_frame _ _ _).mono (by decide)).trans ((latchDetailIf_frame _ _ _).mono (by decide))
  · exact .refl _ _

theorem countRow_frame (r : RowPulse) (s : State) : AgreeOutside [.axf, .port] s (countRow r s) := by
  unfold countRow; dsimp only
  exact (agreeOutside_ite _ (countMiss_frame _ _) (.refl _ _)).trans (agreeOutside_ite _ (countMiss_frame _ _) (.refl _ _))

theorem countMisses_frame (a : Axle) (rows : List RowPulse) (s : State) : AgreeOutside [.axf, .port] s (countMisses a rows s) := by
  unfold countMisses; split
  · exact .refl _ _
  · exact agreeOutside_foldl _ (fun s r => countRow_frame r s) _ _

theorem clearMiss_frame (c : Channel) (s : State) : AgreeOutside [.axf] s (clearMiss c s) := withFormer_frame _ _ _

theorem handAxle_frame (l : Lane) (a : Axle) (rows : List RowPulse) (s : State) : AgreeOutside formerChanges s (handAxle l a rows s) :=
  ((axleArrival_frame l a s).mono (by decide)).trans ((countMisses_frame _ _ _).mono (by decide))

theorem handUnpaired_frame (r : RowPulse) (s : State) : AgreeOutside formerChanges s (handUnpaired r s) := handAxle_frame _ _ _ _

theorem handUnpairedAll_frame (rs : List RowPulse) (s : State) : AgreeOutside formerChanges s (handUnpairedAll rs s) :=
  agreeOutside_foldl _ (fun s r => handUnpaired_frame r s) _ _

theorem insertUpstream_frame (r : RowPulse) (s : State) : AgreeOutside formerChanges s (insertUpstream r s) := by
  unfold insertUpstream; split
  · exact .refl _ _
  · split
    · exact ((withUpstream_frame _ _ _).mono (by decide)).trans (handUnpaired_frame _ _)
    · exact (withUpstream_frame _ _ _).mono (by decide)

theorem pairDownstream_frame (d : RowPulse) (s : State) : AgreeOutside formerChanges s (pairDownstream d s) := by
  unfold pairDownstream; split
  · exact handUnpaired_frame _ _
  · exact (((withUpstream_frame _ _ _).mono (by decide)).trans (handUnpairedAll_frame _ _)).trans (handAxle_frame _ _ _ _)

theorem takeRowPulse_frame (r : RowPulse) (s : State) : AgreeOutside formerChanges s (takeRowPulse r s) := by
  unfold takeRowPulse; split
  · exact insertUpstream_frame _ _
  · exact pairDownstream_frame _ _

theorem leaveOneTrack_frame (m : Summary) (s : State) : AgreeOutside formerChanges s (leaveOneTrack m s) :=
  ((withSlot_frame _ _ _).mono (by decide)).trans (takeRowPulse_frame _ _)

theorem releaseWaiting_frame (c : Option Channel) (s : State) : AgreeOutside formerChanges s (releaseWaiting c s) := by
  unfold releaseWaiting; split
  · exact leaveOneTrack_frame _ _
  · exact .refl _ _

theorem settleHalf_frame (b : Bool) (m : Summary) (s : State) : AgreeOutside formerChanges s (settleHalf b m s) := by
  unfold settleHalf; repeat' split
  · exact (withSlot_frame _ _ _).mono (by decide)
  · exact leaveOneTrack_frame _ _
  · exact (((withSlot_frame _ _ _).mono (by decide)).trans ((withSlot_frame _ _ _).mono (by decide))).trans (takeRowPulse_frame _ _)
  · exact (leaveOneTrack_frame _ _).trans (releaseWaiting_frame _ _)
  · exact leaveOneTrack_frame _ _
  · exact leaveOneTrack_frame _ _

theorem displace_frame (c : Channel) (s : State) : AgreeOutside formerChanges s (displace c s) := by
  unfold displace; split
  · exact .refl _ _
  · exact settleHalf_frame _ _ _
  · exact leaveOneTrack_frame _ _

theorem pairOwnLane_frame (m n : Summary) (b : Bool) (s : State) : AgreeOutside formerChanges s (pairOwnLane m n b s) := by
  unfold pairOwnLane; dsimp only
  have h := ((withSlot_frame n.ch .empty s).mono (M := formerChanges) (by decide)).trans (takeRowPulse_frame (pairedPulse m n) _)
  split
  · exact h.trans (releaseWaiting_frame _ _)
  · exact h

theorem takeSummary_frame (m : Summary) (s : State) : AgreeOutside formerChanges s (takeSummary m s) := by
  have h : AgreeOutside formerChanges s (clearMiss m.ch s) := (clearMiss_frame _ _).mono (by decide)
  have e : ∀ t, AgreeOutside formerChanges t (enterSlot m (displace m.ch t)) := fun t =>
    (displace_frame _ _).trans ((withSlot_frame _ _ _).mono (by decide))
  unfold takeSummary; dsimp only
  refine h.trans ?_
  repeat' split
  · exact pairOwnLane_frame _ _ _ _
  · exact e _
  · exact pairOwnLane_frame _ _ _ _
  · exact e _
  · exact e _

theorem summaryArrival_frame (m : Summary) (s : State) : AgreeOutside formerChanges s (summaryArrival m s) :=
  (takeSummary_frame m s).trans ((deferChecks_frame _ _).mono (by decide))

theorem halfWindowEnd_frame (c : Channel) (s : State) : AgreeOutside formerChanges s (halfWindowEnd c s) := by
  unfold halfWindowEnd; repeat' split
  · exact (settleHalf_frame _ _ _).trans ((deferChecks_frame _ _).mono (by decide))
  · exact .refl _ _
  · exact .refl _ _

theorem upstreamExpiry_frame (l : Lane) (s : State) : AgreeOutside formerChanges s (upstreamExpiry l s) := by
  unfold upstreamExpiry; dsimp only; split
  · exact (((withUpstream_frame _ _ _).mono (by decide)).trans (handUnpairedAll_frame _ _)).trans
      ((deferChecks_frame _ _).mono (by decide))
  · exact .refl _ _

theorem flushFormer_frame (l : Lane) (s : State) : AgreeOutside formerChanges s (flushFormer l s) :=
  ((((withFormer_frame _ _ _).mono (by decide)).trans (handUnpairedAll_frame _ _)).trans
    ((linkLossNotice_frame _ _).mono (by decide))).trans ((deferChecks_frame _ _).mono (by decide))

/-! ### The conditioners -/

theorem withConditioner_frame (c : Channel) (x : Conditioner) (s : State) : AgreeOutside [.cc] s (s.withConditioner c x) := by
  intro y hy; cases y <;> simp_all [Agree]

theorem acquireComplete_frame (c : Channel) (s : State) : AgreeOutside [.cc] s (acquireComplete c s) := by
  unfold acquireComplete; dsimp only; split
  · exact withConditioner_frame _ _ _
  · exact .refl _ _

theorem recoverComplete_frame (c : Channel) (s : State) : AgreeOutside [.cc] s (recoverComplete c s) := by
  unfold recoverComplete; dsimp only; split
  · exact withConditioner_frame _ _ _
  · exact .refl _ _

theorem pulseAbandoned_frame (c : Channel) (s : State) : AgreeOutside [.cc, .vb] s (pulseAbandoned c s) := by
  unfold pulseAbandoned; dsimp only; split
  · exact ((withConditioner_frame _ _ _).mono (by decide)).trans ((abandonmentNotice_frame _ _).mono (by decide))
  · exact .refl _ _

theorem pulseEnd_frame (c : Channel) (s : State) : AgreeOutside (.cc :: formerChanges) s (pulseEnd c s) := by
  unfold pulseEnd; dsimp only; split
  · split
    · exact ((withConditioner_frame _ _ _).mono (by decide)).trans ((summaryArrival_frame _ _).mono (by decide))
    · exact (withConditioner_frame _ _ _).mono (by decide)
  · exact .refl _ _

theorem conditionersScan_frame (d : Scan) (b : Bool) (n : Word32) (t : SiteTime) (s : State) :
    AgreeOutside [.cc] s (conditionersScan d b n t s) := by
  intro x hx; cases x <;> simp_all [Agree, conditionersScan]

/-! ### The temperature monitor -/

theorem withPtm_frame (m : TempMonitor) (s : State) : AgreeOutside [.ptm] s (s.withPtm m) := by
  intro x hx; cases x <;> simp_all [Agree]

theorem temperatureScan_frame (d : Scan) (b : Bool) (s : State) : AgreeOutside [.ptm, .port] s (temperatureScan d b s) := by
  unfold temperatureScan; dsimp only; repeat' split
  · exact (withPtm_frame _ _).mono (by decide)
  · exact (withPtm_frame _ _).mono (by decide)
  · exact ((withPtm_frame _ _).mono (by decide)).trans ((latchDetail_frame _ _).mono (by decide))

theorem reevaluateLane_frame (l : Lane) (s : State) : AgreeOutside [.ptm] s (reevaluateLane l s) := withPtm_frame _ _

theorem reevaluateLanes_frame (s : State) : AgreeOutside [.ptm] s (reevaluateLanes s) :=
  agreeOutside_foldl _ (fun s l => reevaluateLane_frame l s) _ _

theorem probeMoved_frame (p : Probe) (b : Bool) (q : ProbeState) (s : State) : AgreeOutside [.ptm, .port] s (probeMoved p b q s) :=
  (((withPtm_frame _ _).mono (by decide)).trans ((latchDetailIf_frame _ _ _).mono (by decide))).trans
    ((reevaluateLanes_frame _).mono (by decide))

theorem probeReading_frame (p : Probe) (s : State) : AgreeOutside [.ptm, .port] s (probeReading p s) := by
  unfold probeReading; dsimp only; repeat' split
  · exact .refl _ _
  · exact probeMoved_frame _ _ _ _
  · exact probeMoved_frame _ _ _ _

theorem probeStale_frame (p : Probe) (s : State) : AgreeOutside [.ptm, .port] s (probeStale p s) := by
  unfold probeStale; dsimp only; split
  · exact probeMoved_frame _ _ _ _
  · exact .refl _ _

theorem laneTempLost_frame (l : Lane) (s : State) : AgreeOutside [.ptm] s (laneTempLost l s) := by
  unfold laneTempLost; dsimp only; split
  · exact withPtm_frame _ _
  · exact .refl _ _

/-! ### The receiver -/

theorem withSlr_frame (k : Link) (s : State) : AgreeOutside [.slr] s (s.withSlr k) := by
  intro x hx; cases x <;> simp_all [Agree]

theorem evalMargin_frame (s : State) : AgreeOutside [.slr, .port] s (evalMargin s) := by
  unfold evalMargin; dsimp only
  exact ((((withSlr_frame _ _).mono (by decide)).trans ((latchDetailIf_frame _ _ _).mono (by decide))).trans
    ((latchDetailIf_frame _ _ _).mono (by decide))).trans ((latchDetailIf_frame _ _ _).mono (by decide))

theorem enterRunning_frame (m : List Word16) (s : State) : AgreeOutside [.slr, .port] s (enterRunning m s) :=
  ((withSlr_frame _ _).mono (by decide)).trans (evalMargin_frame _)

theorem alignArrival_frame (b : Bool) (v : Word16) (s : State) : AgreeOutside [.slr, .port] s (alignArrival b v s) := by
  unfold alignArrival; repeat' split
  all_goals first | exact enterRunning_frame _ _ | exact (withSlr_frame _ _).mono (by decide)

theorem completeScan_frame (d : Scan) (s : State) : AgreeOutside [.slr, .port] s (completeScan d s) := by
  unfold completeScan; dsimp only; split
  · exact ((withSlr_frame _ _).mono (by decide)).trans (evalMargin_frame _)
  · exact ((withSlr_frame _ _).mono (by decide)).trans ((latchDetail_frame _ _).mono (by decide))

theorem withCc_frame (x : PerChannel Conditioner) (s : State) : AgreeOutside [.cc] s (s.withCc x) := by
  intro y hy; cases y <;> simp_all [Agree]

theorem noticePath_frame (s : State) : AgreeOutside trafficChanges s (noticePath s) :=
  (((withCc_frame _ s).mono (by decide)).trans
    (agreeOutside_foldl _ (fun s l => (flushFormer_frame l s).mono former_in_traffic) _ _)).trans
    ((withPtm_frame _ _).mono (by decide))

theorem leaveRunning_frame (k : LinkState) (s : State) : AgreeOutside trafficChanges s (leaveRunning k s) :=
  (((withSlr_frame _ s).mono (by decide)).trans ((latchDetail_frame _ _).mono (by decide))).trans (noticePath_frame _)

theorem runningArrival_frame (b : Bool) (v : Word16) (s : State) : AgreeOutside trafficChanges s (runningArrival b v s) := by
  unfold runningArrival; dsimp only; repeat' split
  · exact (withSlr_frame _ _).mono (by decide)
  · exact (completeScan_frame _ _).mono (by decide)
  · exact (leaveRunning_frame _ _).trans ((alignArrival_frame _ _ _).mono (by decide))

theorem linkArrival_frame (b : Bool) (v : Word16) (s : State) : AgreeOutside trafficChanges s (linkArrival b v s) := by
  unfold linkArrival; dsimp only
  refine AgreeOutside.trans ((withSlr_frame { s.slr with silence := 0 } s).mono (by decide)) ?_
  split
  · exact ((withSlr_frame _ _).mono (by decide)).trans ((alignArrival_frame _ _ _).mono (by decide))
  · exact (alignArrival_frame _ _ _).mono (by decide)
  · exact runningArrival_frame _ _ _

theorem linkSilence_frame (s : State) : AgreeOutside trafficChanges s (linkSilence s) := by
  unfold linkSilence; repeat' split
  · exact .refl _ _
  · exact .refl _ _
  · exact (withSlr_frame _ _).mono (by decide)
  · exact leaveRunning_frame _ _

theorem deliver_frame (d : Scan) (b : Bool) (s : State) : AgreeOutside trafficChanges s (deliver d b s) :=
  ((conditionersScan_frame _ _ _ _ _).mono (by decide)).trans ((temperatureScan_frame _ _ _).mono (by decide))

theorem strobeRead_frame (s : State) : AgreeOutside trafficChanges s (strobeRead s) := by
  unfold strobeRead; dsimp only; repeat' split
  · exact (((withSlr_frame _ _).mono (by decide)).trans ((latchDetail_frame _ _).mono (by decide))).trans (deliver_frame _ _ _)
  · exact ((withSlr_frame _ _).mono (by decide)).trans ((latchDetail_frame _ _).mono (by decide))
  · exact (((withSlr_frame _ _).mono (by decide)).trans ((evalMargin_frame _).mono (by decide))).trans (deliver_frame _ _ _)
  · exact ((withSlr_frame _ _).mono (by decide)).trans ((evalMargin_frame _).mono (by decide))
  · exact .refl _ _

/-! ### The upstream list -/

/-- A row pulse goes between the entries earlier than or equal to it and those later (R54). -/
theorem insertByInstant_between (r : RowPulse) (before after : List RowPulse) (lo : ∀ e ∈ before, 0 ≤ fineSpan r.instant e.instant)
    (hi : ∀ e ∈ after, fineSpan r.instant e.instant < 0) : insertByInstant r (before ++ after) = before ++ r :: after := by
  induction before with
  | nil =>
    cases after with
    | nil => rfl
    | cons e rest => simp [insertByInstant, Int.not_le.mpr (hi e (by simp))]
  | cons e rest ih =>
    simp only [List.mem_cons, forall_eq_or_imp] at lo
    simp [insertByInstant, lo.1, ih lo.2]

/-- The partner of a D row pulse is the first entry that has a candidate speed (R56). -/
theorem findPartner_between (spacing : Nat) (d u : RowPulse) (v : Nat) (older younger : List RowPulse)
    (no : ∀ e ∈ older, candidateSpeed spacing d e = none) (yes : candidateSpeed spacing d u = some v) :
    findPartner spacing d (older ++ u :: younger) = some (older, u, v, younger) := by
  induction older with
  | nil => simp [findPartner, yes]
  | cons e rest ih =>
    simp only [List.mem_cons, forall_eq_or_imp] at no
    simp [findPartner, no.1, ih no.2]

/-- A D row pulse without a candidate has no partner (R56). -/
theorem findPartner_none (spacing : Nat) (d : RowPulse) (list : List RowPulse) (no : ∀ e ∈ list, candidateSpeed spacing d e = none) :
    findPartner spacing d list = none := by
  induction list with
  | nil => rfl
  | cons e rest ih =>
    simp only [List.mem_cons, forall_eq_or_imp] at no
    simp [findPartner, no.1, ih no.2]

/-! ### The fields kept from a strobe and from the line -/

/-- A reference period at a port touches its phase, the age of its request, its sent bits and its idle count alone (log 3). -/
theorem SitePort.period_frame (q : SitePort) : q.period = { q with
    bitPhase := q.period.bitPhase, frameAge := q.period.frameAge, sentBits := q.period.sentBits, idle := q.period.idle } := by
  unfold SitePort.period; dsimp only; split <;> rfl

@[simp] theorem AxleFormer.strobe_slots (k : Nat) (f : AxleFormer) : (f.strobe k).slots = f.slots := rfl
@[simp] theorem AxleFormer.strobe_upstream (k : Nat) (f : AxleFormer) : (f.strobe k).upstream = f.upstream := rfl
@[simp] theorem AxleFormer.strobe_miss (k : Nat) (f : AxleFormer) : (f.strobe k).miss = f.miss := rfl
@[simp] theorem AxleFormer.strobe_limit (k : Nat) (f : AxleFormer) : (f.strobe k).limit = expiryLimit k := rfl
@[simp] theorem SitePort.quiet_state (q : SitePort) : q.quiet.state = q.state := rfl
@[simp] theorem SitePort.quiet_idle (q : SitePort) : q.quiet.idle = 0 := rfl
@[simp] theorem SitePort.quiet_bitPhase (q : SitePort) : q.quiet.bitPhase = 0 := rfl
@[simp] theorem SitePort.quiet_frameAge (q : SitePort) : q.quiet.frameAge = q.frameAge := rfl

end Sys2Proof.Machine
end

