-- ==== Sys2Proof/Laws/PerInstr.lean ====
section
/-! SUPPORT. What holds of every command as syntax, with one lemma per constructor: a well-formed command that is a request frame
carries a destination without the reply mark and a payload that fits a frame (R159, R183). -/

namespace Sys2Proof.Laws

/-- The operands of a request frame are what a request frame may hold. -/
def RequestOperands.Statement (i : Instr) : Prop :=
  ∀ (dest code : Byte) (payload : List Byte), i.wf = true → i.frame? = some (dest, code, payload) →
    requestOk dest payload = true

theorem RequestOperands.startUp (cause : StartCause) : RequestOperands.Statement (.startUp cause) := by
  intro _ _ _ _ h; cases h
theorem RequestOperands.siteTimeAdvance : RequestOperands.Statement (.siteTimeAdvance) := by
  intro _ _ _ _ h; cases h
theorem RequestOperands.scanStrobe (loops : BitVec 6) : RequestOperands.Statement (.scanStrobe loops) := by
  intro _ _ _ _ h; cases h
theorem RequestOperands.holdoverTimerExpiry : RequestOperands.Statement (.holdoverTimerExpiry) := by
  intro _ _ _ _ h; cases h
theorem RequestOperands.timeMark (port : Port) (dest : Byte) (payload : List Byte) : RequestOperands.Statement (.timeMark port dest payload) := by
  intro _ _ _ w h; simp only [Instr.frame?, Option.some.injEq, Prod.mk.injEq] at h; obtain ⟨rfl, rfl, rfl⟩ := h; exact w
theorem RequestOperands.timeMarkExpiry : RequestOperands.Statement (.timeMarkExpiry) := by
  intro _ _ _ _ h; cases h
theorem RequestOperands.timePulse : RequestOperands.Statement (.timePulse) := by
  intro _ _ _ _ h; cases h
theorem RequestOperands.timeSet (port : Port) (dest : Byte) (payload : List Byte) : RequestOperands.Statement (.timeSet port dest payload) := by
  intro _ _ _ w h; simp only [Instr.frame?, Option.some.injEq, Prod.mk.injEq] at h; obtain ⟨rfl, rfl, rfl⟩ := h; exact w
theorem RequestOperands.linkArrival (tagged : Bool) (value : Word16) : RequestOperands.Statement (.linkArrival tagged value) := by
  intro _ _ _ _ h; cases h
theorem RequestOperands.linkSilence : RequestOperands.Statement (.linkSilence) := by
  intro _ _ _ _ h; cases h
theorem RequestOperands.acquireComplete (ch : Channel) : RequestOperands.Statement (.acquireComplete ch) := by
  intro _ _ _ _ h; cases h
theorem RequestOperands.recoverComplete (ch : Channel) : RequestOperands.Statement (.recoverComplete ch) := by
  intro _ _ _ _ h; cases h
theorem RequestOperands.pulseEnd (ch : Channel) : RequestOperands.Statement (.pulseEnd ch) := by
  intro _ _ _ _ h; cases h
theorem RequestOperands.pulseAbandoned (ch : Channel) : RequestOperands.Statement (.pulseAbandoned ch) := by
  intro _ _ _ _ h; cases h
theorem RequestOperands.halfWindowEnd (ch : Channel) : RequestOperands.Statement (.halfWindowEnd ch) := by
  intro _ _ _ _ h; cases h
theorem RequestOperands.upstreamExpiry (lane : Lane) : RequestOperands.Statement (.upstreamExpiry lane) := by
  intro _ _ _ _ h; cases h
theorem RequestOperands.loopChange (lane : Lane) : RequestOperands.Statement (.loopChange lane) := by
  intro _ _ _ _ h; cases h
theorem RequestOperands.loopFaultEntry (lane : Lane) : RequestOperands.Statement (.loopFaultEntry lane) := by
  intro _ _ _ _ h; cases h
theorem RequestOperands.laneMode (port : Port) (dest : Byte) (payload : List Byte) : RequestOperands.Statement (.laneMode port dest payload) := by
  intro _ _ _ w h; simp only [Instr.frame?, Option.some.injEq, Prod.mk.injEq] at h; obtain ⟨rfl, rfl, rfl⟩ := h; exact w
theorem RequestOperands.closeTimerExpiry (lane : Lane) : RequestOperands.Statement (.closeTimerExpiry lane) := by
  intro _ _ _ _ h; cases h
theorem RequestOperands.triggerPulseEnd (lane : Lane) : RequestOperands.Statement (.triggerPulseEnd lane) := by
  intro _ _ _ _ h; cases h
theorem RequestOperands.probeReading (probe : Probe) : RequestOperands.Statement (.probeReading probe) := by
  intro _ _ _ _ h; cases h
theorem RequestOperands.probeStale (probe : Probe) : RequestOperands.Statement (.probeStale probe) := by
  intro _ _ _ _ h; cases h
theorem RequestOperands.laneTempLost (lane : Lane) : RequestOperands.Statement (.laneTempLost lane) := by
  intro _ _ _ _ h; cases h
theorem RequestOperands.readTemperatures (port : Port) (dest : Byte) (payload : List Byte) : RequestOperands.Statement (.readTemperatures port dest payload) := by
  intro _ _ _ w h; simp only [Instr.frame?, Option.some.injEq, Prod.mk.injEq] at h; obtain ⟨rfl, rfl, rfl⟩ := h; exact w
theorem RequestOperands.driftApplicationTaken (lane : Lane) : RequestOperands.Statement (.driftApplicationTaken lane) := by
  intro _ _ _ _ h; cases h
theorem RequestOperands.driftApply (port : Port) (dest : Byte) (payload : List Byte) (key : Bool) : RequestOperands.Statement (.driftApply port dest payload key) := by
  intro _ _ _ w h; simp only [Instr.frame?, Option.some.injEq, Prod.mk.injEq] at h; obtain ⟨rfl, rfl, rfl⟩ := h; exact w
theorem RequestOperands.driftReset (port : Port) (dest : Byte) (payload : List Byte) (key : Bool) : RequestOperands.Statement (.driftReset port dest payload key) := by
  intro _ _ _ w h; simp only [Instr.frame?, Option.some.injEq, Prod.mk.injEq] at h; obtain ⟨rfl, rfl, rfl⟩ := h; exact w
theorem RequestOperands.readDrift (port : Port) (dest : Byte) (payload : List Byte) : RequestOperands.Statement (.readDrift port dest payload) := by
  intro _ _ _ w h; simp only [Instr.frame?, Option.some.injEq, Prod.mk.injEq] at h; obtain ⟨rfl, rfl, rfl⟩ := h; exact w
theorem RequestOperands.startRun (port : Port) (dest : Byte) (payload : List Byte) : RequestOperands.Statement (.startRun port dest payload) := by
  intro _ _ _ w h; simp only [Instr.frame?, Option.some.injEq, Prod.mk.injEq] at h; obtain ⟨rfl, rfl, rfl⟩ := h; exact w
theorem RequestOperands.acceptPass (port : Port) (dest : Byte) (payload : List Byte) : RequestOperands.Statement (.acceptPass port dest payload) := by
  intro _ _ _ w h; simp only [Instr.frame?, Option.some.injEq, Prod.mk.injEq] at h; obtain ⟨rfl, rfl, rfl⟩ := h; exact w
theorem RequestOperands.rejectPass (port : Port) (dest : Byte) (payload : List Byte) : RequestOperands.Statement (.rejectPass port dest payload) := by
  intro _ _ _ w h; simp only [Instr.frame?, Option.some.injEq, Prod.mk.injEq] at h; obtain ⟨rfl, rfl, rfl⟩ := h; exact w
theorem RequestOperands.runPendingTimeout : RequestOperands.Statement (.runPendingTimeout) := by
  intro _ _ _ _ h; cases h
theorem RequestOperands.runArmedTimeout : RequestOperands.Statement (.runArmedTimeout) := by
  intro _ _ _ _ h; cases h
theorem RequestOperands.readRun (port : Port) (dest : Byte) (payload : List Byte) : RequestOperands.Statement (.readRun port dest payload) := by
  intro _ _ _ w h; simp only [Instr.frame?, Option.some.injEq, Prod.mk.injEq] at h; obtain ⟨rfl, rfl, rfl⟩ := h; exact w
theorem RequestOperands.applyRun (port : Port) (dest : Byte) (payload : List Byte) : RequestOperands.Statement (.applyRun port dest payload) := by
  intro _ _ _ w h; simp only [Instr.frame?, Option.some.injEq, Prod.mk.injEq] at h; obtain ⟨rfl, rfl, rfl⟩ := h; exact w
theorem RequestOperands.endRun (port : Port) (dest : Byte) (payload : List Byte) : RequestOperands.Statement (.endRun port dest payload) := by
  intro _ _ _ w h; simp only [Instr.frame?, Option.some.injEq, Prod.mk.injEq] at h; obtain ⟨rfl, rfl, rfl⟩ := h; exact w
theorem RequestOperands.recordCommit : RequestOperands.Statement (.recordCommit) := by
  intro _ _ _ _ h; cases h
theorem RequestOperands.portGrantExecute (key : Bool) : RequestOperands.Statement (.portGrantExecute key) := by
  intro _ _ _ _ h; cases h
theorem RequestOperands.readRecords (port : Port) (dest : Byte) (payload : List Byte) : RequestOperands.Statement (.readRecords port dest payload) := by
  intro _ _ _ w h; simp only [Instr.frame?, Option.some.injEq, Prod.mk.injEq] at h; obtain ⟨rfl, rfl, rfl⟩ := h; exact w
theorem RequestOperands.release (port : Port) (dest : Byte) (payload : List Byte) : RequestOperands.Statement (.release port dest payload) := by
  intro _ _ _ w h; simp only [Instr.frame?, Option.some.injEq, Prod.mk.injEq] at h; obtain ⟨rfl, rfl, rfl⟩ := h; exact w
theorem RequestOperands.setFilter (port : Port) (dest : Byte) (payload : List Byte) : RequestOperands.Statement (.setFilter port dest payload) := by
  intro _ _ _ w h; simp only [Instr.frame?, Option.some.injEq, Prod.mk.injEq] at h; obtain ⟨rfl, rfl, rfl⟩ := h; exact w
theorem RequestOperands.seek (port : Port) (dest : Byte) (payload : List Byte) : RequestOperands.Statement (.seek port dest payload) := by
  intro _ _ _ w h; simp only [Instr.frame?, Option.some.injEq, Prod.mk.injEq] at h; obtain ⟨rfl, rfl, rfl⟩ := h; exact w
theorem RequestOperands.readStatus (port : Port) (dest : Byte) (payload : List Byte) : RequestOperands.Statement (.readStatus port dest payload) := by
  intro _ _ _ w h; simp only [Instr.frame?, Option.some.injEq, Prod.mk.injEq] at h; obtain ⟨rfl, rfl, rfl⟩ := h; exact w
theorem RequestOperands.identify (port : Port) (dest : Byte) (payload : List Byte) : RequestOperands.Statement (.identify port dest payload) := by
  intro _ _ _ w h; simp only [Instr.frame?, Option.some.injEq, Prod.mk.injEq] at h; obtain ⟨rfl, rfl, rfl⟩ := h; exact w
theorem RequestOperands.clearAttention (port : Port) (dest : Byte) (payload : List Byte) : RequestOperands.Statement (.clearAttention port dest payload) := by
  intro _ _ _ w h; simp only [Instr.frame?, Option.some.injEq, Prod.mk.injEq] at h; obtain ⟨rfl, rfl, rfl⟩ := h; exact w
theorem RequestOperands.setAttentionEnables (port : Port) (dest : Byte) (payload : List Byte) : RequestOperands.Statement (.setAttentionEnables port dest payload) := by
  intro _ _ _ w h; simp only [Instr.frame?, Option.some.injEq, Prod.mk.injEq] at h; obtain ⟨rfl, rfl, rfl⟩ := h; exact w
theorem RequestOperands.restart (port : Port) (dest : Byte) (payload : List Byte) : RequestOperands.Statement (.restart port dest payload) := by
  intro _ _ _ w h; simp only [Instr.frame?, Option.some.injEq, Prod.mk.injEq] at h; obtain ⟨rfl, rfl, rfl⟩ := h; exact w
theorem RequestOperands.unknownRequest (port : Port) (dest : Byte) (code : Byte) (payload : List Byte) : RequestOperands.Statement (.unknownRequest port dest code payload) := by
  intro _ _ _ w h; simp only [Instr.frame?, Option.some.injEq, Prod.mk.injEq] at h; obtain ⟨rfl, rfl, rfl⟩ := h; simp only [Instr.wf, Bool.and_eq_true] at w; exact w.1
theorem RequestOperands.frameCrcError (port : Port) (frame : List Byte) : RequestOperands.Statement (.frameCrcError port frame) := by
  intro _ _ _ _ h; cases h
theorem RequestOperands.otherUnitReply (port : Port) (first : Byte) (status : Byte) (payload : List Byte) : RequestOperands.Statement (.otherUnitReply port first status payload) := by
  intro _ _ _ _ h; cases h
theorem RequestOperands.frameNotAddressed (port : Port) (dest : Byte) (code : Byte) (payload : List Byte) : RequestOperands.Statement (.frameNotAddressed port dest code payload) := by
  intro _ _ _ _ h; cases h
theorem RequestOperands.framingError (port : Port) (bytes : List Byte) (lowStop : Bool) : RequestOperands.Statement (.framingError port bytes lowStop) := by
  intro _ _ _ _ h; cases h
theorem RequestOperands.frameGapTimeout (port : Port) (bytes : List Byte) : RequestOperands.Statement (.frameGapTimeout port bytes) := by
  intro _ _ _ _ h; cases h
theorem RequestOperands.overrun (port : Port) (byte : Byte) : RequestOperands.Statement (.overrun port byte) := by
  intro _ _ _ _ h; cases h
theorem RequestOperands.portArmed (port : Port) : RequestOperands.Statement (.portArmed port) := by
  intro _ _ _ _ h; cases h
theorem RequestOperands.replyStart (port : Port) : RequestOperands.Statement (.replyStart port) := by
  intro _ _ _ _ h; cases h
theorem RequestOperands.replySent (port : Port) : RequestOperands.Statement (.replySent port) := by
  intro _ _ _ _ h; cases h
theorem RequestOperands.claimEdit (port : Port) (dest : Byte) (payload : List Byte) : RequestOperands.Statement (.claimEdit port dest payload) := by
  intro _ _ _ w h; simp only [Instr.frame?, Option.some.injEq, Prod.mk.injEq] at h; obtain ⟨rfl, rfl, rfl⟩ := h; exact w
theorem RequestOperands.releaseEdit (port : Port) (dest : Byte) (payload : List Byte) : RequestOperands.Statement (.releaseEdit port dest payload) := by
  intro _ _ _ w h; simp only [Instr.frame?, Option.some.injEq, Prod.mk.injEq] at h; obtain ⟨rfl, rfl, rfl⟩ := h; exact w
theorem RequestOperands.editTokenExpiry : RequestOperands.Statement (.editTokenExpiry) := by
  intro _ _ _ _ h; cases h
theorem RequestOperands.writeSetting (port : Port) (dest : Byte) (payload : List Byte) : RequestOperands.Statement (.writeSetting port dest payload) := by
  intro _ _ _ w h; simp only [Instr.frame?, Option.some.injEq, Prod.mk.injEq] at h; obtain ⟨rfl, rfl, rfl⟩ := h; exact w
theorem RequestOperands.discard (port : Port) (dest : Byte) (payload : List Byte) : RequestOperands.Statement (.discard port dest payload) := by
  intro _ _ _ w h; simp only [Instr.frame?, Option.some.injEq, Prod.mk.injEq] at h; obtain ⟨rfl, rfl, rfl⟩ := h; exact w
theorem RequestOperands.readSetting (port : Port) (dest : Byte) (payload : List Byte) : RequestOperands.Statement (.readSetting port dest payload) := by
  intro _ _ _ w h; simp only [Instr.frame?, Option.some.injEq, Prod.mk.injEq] at h; obtain ⟨rfl, rfl, rfl⟩ := h; exact w
theorem RequestOperands.commit (port : Port) (dest : Byte) (payload : List Byte) : RequestOperands.Statement (.commit port dest payload) := by
  intro _ _ _ w h; simp only [Instr.frame?, Option.some.injEq, Prod.mk.injEq] at h; obtain ⟨rfl, rfl, rfl⟩ := h; exact w
theorem RequestOperands.programmingStep : RequestOperands.Statement (.programmingStep) := by
  intro _ _ _ _ h; cases h
theorem RequestOperands.programmingWriteDone (verified : Bool) : RequestOperands.Statement (.programmingWriteDone verified) := by
  intro _ _ _ _ h; cases h
theorem RequestOperands.listenByteNotArmed (port : Port) (byte : Byte) : RequestOperands.Statement (.listenByteNotArmed port byte) := by
  intro _ _ _ _ h; cases h

end Sys2Proof.Laws
end

