-- ==== Sys2Proof/Laws/Requests.lean ====
section
/-! SUPPORT. What taking a request can do, said once: the state a direct request's own rule runs in, the answer that follows, and
the grant of the one port that waits. -/

namespace Sys2Proof.Machine

/-! ### The state a direct request runs in -/

/-- A direct request in hand with the holder's lease restarted. -/
def inHand (p : Port) (dest code : Byte) (payload : List Byte) (s : State) : State :=
  restartLease p (hold p (buildFrame dest code payload) s)

@[simp] theorem hold_sst (p : Port) (f : List Byte) (s : State) : (hold p f s).sst = s.sst := rfl

theorem restartLease_sst (p : Port) (s : State) : (restartLease p s).sst = LeaseRestarted p s.sst := by
  unfold restartLease LeaseRestarted
  cases h : s.sst.edit with
  | none => simp; rw [← h]
  | some e =>
    by_cases k : e.holder = p
    · simp [k]
    · simp [k]; rw [← h]

theorem restartLease_frame (p : Port) (s : State) : AgreeOutside [.sst] s (restartLease p s) := by
  intro x hx; unfold restartLease; split <;> try split
  all_goals (cases x <;> simp_all [Agree])

@[simp] theorem inHand_sst (p : Port) (dest code : Byte) (payload : List Byte) (s : State) :
    (inHand p dest code payload s).sst = LeaseRestarted p s.sst := by simp [inHand, restartLease_sst]

theorem inHand_frame (p : Port) (dest code : Byte) (payload : List Byte) (s : State) :
    AgreeOutside [.port, .sst] s (inHand p dest code payload s) := by
  have a : AgreeOutside [.port, .sst] s (hold p (buildFrame dest code payload) s) := by
    intro x hx; cases x <;> simp_all [Agree, hold]
  exact a.trans ((restartLease_frame p _).mono (by decide))

section fields
variable (p : Port) (dest code : Byte) (payload : List Byte) (s : State)

@[simp] theorem inHand_pending : (inHand p dest code payload s).pending = s.pending := inHand_frame p dest code payload s .pending (by decide)
@[simp] theorem inHand_lines : (inHand p dest code payload s).lines = s.lines := inHand_frame p dest code payload s .lines (by decide)
@[simp] theorem inHand_sck : (inHand p dest code payload s).sck = s.sck := inHand_frame p dest code payload s .sck (by decide)
@[simp] theorem inHand_slr : (inHand p dest code payload s).slr = s.slr := inHand_frame p dest code payload s .slr (by decide)
@[simp] theorem inHand_cc : (inHand p dest code payload s).cc = s.cc := inHand_frame p dest code payload s .cc (by decide)
@[simp] theorem inHand_axf : (inHand p dest code payload s).axf = s.axf := inHand_frame p dest code payload s .axf (by decide)
@[simp] theorem inHand_vb : (inHand p dest code payload s).vb = s.vb := inHand_frame p dest code payload s .vb (by decide)
@[simp] theorem inHand_vehicleNumber : (inHand p dest code payload s).vehicleNumber = s.vehicleNumber :=
  inHand_frame p dest code payload s .vehicleNumber (by decide)
@[simp] theorem inHand_ptm : (inHand p dest code payload s).ptm = s.ptm := inHand_frame p dest code payload s .ptm (by decide)
@[simp] theorem inHand_dtk : (inHand p dest code payload s).dtk = s.dtk := inHand_frame p dest code payload s .dtk (by decide)
@[simp] theorem inHand_rru : (inHand p dest code payload s).rru = s.rru := inHand_frame p dest code payload s .rru (by decide)
@[simp] theorem inHand_rst : (inHand p dest code payload s).rst = s.rst := inHand_frame p dest code payload s .rst (by decide)
@[simp] theorem inHand_sea : (inHand p dest code payload s).sea = s.sea := inHand_frame p dest code payload s .sea (by decide)
@[simp] theorem inHand_startCause : (inHand p dest code payload s).startCause = s.startCause :=
  inHand_frame p dest code payload s .startCause (by decide)
@[simp] theorem inHand_freeCount : (inHand p dest code payload s).freeCount = s.freeCount :=
  inHand_frame p dest code payload s .freeCount (by decide)
@[simp] theorem inHand_port : (inHand p dest code payload s).port =
    s.port.set p (WaitingPort (s.sitePort p) dest code payload) := by
  unfold inHand
  exact restartLease_frame p (hold p (buildFrame dest code payload) s) .port (by decide)
@[simp] theorem inHand_active : (LeaseRestarted p s.sst).active = s.sst.active := rfl
@[simp] theorem inHand_prog : (LeaseRestarted p s.sst).prog = s.sst.prog := rfl

theorem inHand_holds : (inHand p dest code payload s).holdsToken p = s.holdsToken p := by
  simp [State.holdsToken, LeaseRestarted]
  cases h : s.sst.edit with
  | none => simp
  | some e => by_cases k : e.holder = p <;> simp [k]

end fields

/-! ### A direct request -/

/-- A direct request that is taken: its checks and its rule run with the request in hand, and what they come to is settled. -/
theorem takeRequest_direct {s : State} {p : Port} {dest : Byte} {payload : List Byte} (h : TakenDirect s p dest payload)
    (g len : Bool) (needs : Privileges → Bool) (act : State → Action) (code : Byte) :
    takeRequest g len needs act p dest code payload s =
      settleAction p dest (checked len (needs (s.may p)) act (inHand p dest code payload s)) := by
  obtain ⟨a, b, c⟩ := h
  unfold takeRequest
  rw [a, c]
  simp [Nat.not_lt.mpr b, State.may, inHand]

/-- A request whose rule answers in a state that left the ports as they were is answered at its port alone. -/
theorem answered_of_answer {s u : State} {p : Port} {dest code : Byte} {payload : List Byte} {st : Status} {answer : List Byte}
    (hport : u.port = (inHand p dest code payload s).port) :
    Answered s (settleAction p dest (.answer u st answer)) p dest code payload st answer := by
  simp [Answered, settleAction, enterReply, hport, AnsweredPort, WaitingPort]

theorem settle_frame (p : Port) (dest : Byte) (u : State) (st : Status) (answer : List Byte) :
    AgreeOutside [.port] u (settleAction p dest (.answer u st answer)) := by
  intro x hx; cases x <;> simp_all [Agree, settleAction, enterReply]

/-- A request that answers in the very state it ran in does nothing else. -/
theorem onlyAnswered {s : State} {p : Port} {dest code : Byte} {payload : List Byte} {st : Status} {answer : List Byte} :
    OnlyAnswered s (settleAction p dest (.answer (inHand p dest code payload s) st answer)) p dest code payload st answer := by
  refine ⟨answered_of_answer rfl, by simp [settleAction, enterReply], ?_⟩
  exact (inHand_frame p dest code payload s).trans ((settle_frame _ _ _ _ _).mono (by decide))

/-- A request whose rule waits, waits with nothing else done. -/
theorem waits {s : State} {p : Port} {dest code : Byte} {payload : List Byte} :
    WaitsForGrant s (settleAction p dest (.wait (inHand p dest code payload s))) p dest code payload := by
  refine ⟨by simp [settleAction], by simp [settleAction], ?_⟩
  exact inHand_frame p dest code payload s

/-! ### The grant of the one port that waits -/

/-- The state in which a grant executes the request of the one port that waits. -/
def granted (p : Port) (dest code : Byte) (payload : List Byte) (key : Bool) (s : State) : State :=
  servePort p (beginGrant .portGroup ((inHand p dest code payload s).withKey key))

theorem portGrant_onlyWaiter {s : State} {p : Port} (h : OnlyWaiter s p) (dest code : Byte) (payload : List Byte) (key : Bool)
    (hl : payload.length ≤ 1024) (hc : needsGrant code.toNat = true) :
    portGrantExecute ((inHand p dest code payload s).withKey key) =
      endGrant (settleAction p dest (executeHeld p code.toNat payload (granted p dest code payload key s))) := by
  obtain ⟨he, hq, hr, ho⟩ := h
  have hst : (((inHand p dest code payload s).withKey key).sitePort p).state = .execute := by simp [WaitingPort]
  have hrx : (((inHand p dest code payload s).withKey key).sitePort p).rx = buildFrame dest code payload := by simp [WaitingPort]
  have hcode := code_buildFrame _ dest code payload hrx
  have hw : ∀ q, (((inHand p dest code payload s).withKey key).sitePort q).waits = decide (q = p) := by
    intro q
    by_cases k : q = p
    · subst k; rw [SitePort.waits, hst, hcode, hc]; simp
    · have := ho q k
      simpa [k] using this
  have hm : ((inHand p dest code payload s).withKey key).grantee = some .portGroup := by
    have e : ((inHand p dest code payload s).withKey key).sea.engine = .free := by simpa using he
    have m : ((inHand p dest code payload s).withKey key).memberWaits = (· == .portGroup) := by
      funext m
      cases m
      · simp [State.memberWaits, hq]
      · have : s.sst.prog.stepReady = false := hr
        simpa [State.memberWaits, show (Member.settingsEngine == Member.portGroup) = false from rfl] using this
      · simp only [State.memberWaits, hw]
        cases p <;> rfl
    rw [State.grantee, if_pos e, m]
    cases ((inHand p dest code payload s).withKey key).sea.last1 <;> rfl
  have hp : ((inHand p dest code payload s).withKey key).chosenPort = some p := by
    simp only [State.chosenPort, hw]
    cases ((inHand p dest code payload s).withKey key).site.arbiterMode <;> simp only
    · cases ((inHand p dest code payload s).withKey key).sea.last2 <;> cases p <;> rfl
    · cases p <;> rfl
  have hpay : framePayload (buildFrame dest code payload) = payload := framePayload_buildFrame _ _ _ (by omega)
  rw [portGrantExecute, if_pos hm, hp]
  simp only [hcode, hrx, hpay]
  rfl

section grant
variable (p : Port) (dest code : Byte) (payload : List Byte) (key : Bool) (s : State)

@[simp] theorem granted_pending : (granted p dest code payload key s).pending = s.pending := by
  simp [granted, servePort, beginGrant]
@[simp] theorem granted_lines : (granted p dest code payload key s).lines = { s.lines with key := key } := by
  simp [granted, servePort, beginGrant]
@[simp] theorem granted_sea : (granted p dest code payload key s).sea = ⟨.portGroup, p, .granted .portGroup⟩ := by
  simp [granted, servePort, beginGrant]
@[simp] theorem granted_rst : (granted p dest code payload key s).rst = s.rst := by simp [granted, servePort, beginGrant]
@[simp] theorem granted_sst : (granted p dest code payload key s).sst = LeaseRestarted p s.sst := by
  simp [granted, servePort, beginGrant]
@[simp] theorem granted_port : (granted p dest code payload key s).port =
    s.port.set p (WaitingPort (s.sitePort p) dest code payload) := by
  simp [granted, servePort, beginGrant]
theorem granted_frame : AgreeOutside [.lines, .sea, .port, .sst] s (granted p dest code payload key s) := by
  intro x hx; cases x <;> simp_all [Agree, granted, servePort, beginGrant]

end grant

/-- A request that a grant answers with the ports left as they were is answered at its port alone. -/
theorem grantAnswered {s u : State} {p : Port} {dest code : Byte} {payload : List Byte} {st : Status} {answer : List Byte}
    (hport : u.port = (inHand p dest code payload s).port) :
    Answered s (endGrant (settleAction p dest (.answer u st answer))) p dest code payload st answer := by
  simp [Answered, endGrant, settleAction, enterReply, hport, AnsweredPort, WaitingPort]

end Sys2Proof.Machine
end

