-- ==== Sys2Proof/Tests/Slice0.lean ====
section
/-! SUPPORT. Tests on fixed values. The expected results of the first part are the manual's own worked examples and tables; the
second part shows, for each statement with hypotheses, a state and operands that meet them. -/

namespace Sys2Proof.Tests

open Machine

/-! ### Words and well-formed commands -/

/-- No row of the table has bits, so no word spells a command. -/
theorem test_no_word_spells_a_command : decodeTableWord 8 0 = none := rfl

/-- A request whose first byte carries the reply mark is ill formed (R183). -/
theorem test_wf_reply_mark : (Instr.identify .a 0x81 []).wf = false := by decide
/-- A request whose payload exceeds 1,024 bytes is ill formed (R159). -/
theorem test_wf_long_payload : (Instr.release .a 1 (List.replicate 1025 0)).wf = false := by
  simp only [Instr.wf, requestOk, List.length_replicate]; decide
/-- A code the unit knows is not an unknown one (R166). -/
theorem test_wf_known_code : (Instr.unknownRequest .a 1 28 []).wf = false := by decide
set_option maxRecDepth 4000 in
/-- A frame whose CRC agrees is no CRC error (R162). -/
theorem test_wf_good_crc : (Instr.frameCrcError .a (buildFrame 1 1 [])).wf = false := by decide
/-- A frame cut short is no completed frame (R161). -/
theorem test_wf_short_frame : (Instr.frameCrcError .a [1, 1, 0, 0, 7]).wf = false := by decide
/-- The reply of another unit carries the reply mark (R162). -/
theorem test_wf_other_reply : (Instr.otherUnitReply .a 0x01 0 []).wf = false := by decide
/-- A request for no one here carries no reply mark (R165). -/
theorem test_wf_not_addressed : (Instr.frameNotAddressed .a 0x80 1 []).wf = false := by decide
/-- A length of 1,024 is no framing error (R161). -/
theorem test_wf_length_allowed : (Instr.framingError .a [1, 6, 4, 0] false).wf = false := by decide
/-- A gap ends a frame that is not complete, not a whole one (R161). -/
theorem test_wf_gap_after_whole : (Instr.frameGapTimeout .a (buildFrame 1 1 [])).wf = false := by decide
/-- A good request is well formed. -/
theorem test_wf_request : (Instr.driftApply .a 1 [2] true).wf = true := by decide

/-! ### Arithmetic of the manual -/

/-- Factor multiply of 3,003 by 4,137 (section 2.3 of the scope file). -/
theorem test_factor_multiply : factorMul 3003 4137 = 3033 := by decide
/-- The two increment words at trim 0 and at −4,500 (chapter 1, bringing site time into lock). -/
theorem test_us_word : usWord 0 = 214748365 ∧ usWord (-4500) = 214747398 ∧ usWord (-8000) = 214746647 := by decide
theorem test_scan_word : scanWord 0 = 1717987 ∧ scanWord (-4500) = 1717979 ∧ scanWord (-8000) = 1717973 := by decide
/-- The pulse captured at 0.612400 under mark 1,000 (chapter 1). -/
theorem test_pulse_error : pulseError ⟨0, 612400⟩ 1000 = -999387600 := by decide
/-- The falling segment read at 2,500 is 4,077, by truncation (section 3.6), and both ends clamp. -/
theorem test_curve :
    readCurve [⟨1389, 4180⟩, ⟨2778, 4050⟩] 2500 = 4077 ∧ readCurve [⟨1389, 4180⟩, ⟨2778, 4050⟩] 1000 = 4180 ∧
      readCurve [⟨1389, 4180⟩, ⟨2778, 4050⟩] 3000 = 4050 := by decide
/-- Speeds of section 3.5: 2,500 exactly, and 1,998 by rounding. -/
theorem test_speed : speedOf 3000 15360 = 2500 ∧ speedOf 3000 19221 = 1998 := by decide
/-- The loads of channels 4 and 6 of section 3.12, stage by stage 3,004, 2,990, 3,003, 3,033 and 3,036 to 3,065. -/
theorem test_wheel_load :
    wheelLoad 120000 2500 168 4077 4114 4137 = (3033, false) ∧ wheelLoad 123500 2500 165 4077 4114 4137 = (3065, false) := by
  decide
/-- The temperature factor of section 3.12 at 31.5 °C. -/
theorem test_temperature_factor : readCurve [⟨200, 4000⟩, ⟨300, 4096⟩, ⟨400, 4220⟩] 315 = 4114 := by decide
/-- The U pair of section 3.12: 3 sixteenths apart, mean 5,120,005, in either order. -/
theorem test_mean_instant :
    meanInstant 5120006 5120003 = 5120005 ∧ meanInstant 5120003 5120006 = 5120005 ∧ meanInstant 4817698 4817741 = 4817720 := by
  decide
/-- The combining of section 3.12: sides 3,049 and 2,961, rows not in disagreement. -/
theorem test_combine :
    combineSide (some 3033) (some 3065) = 3049 ∧ combineSide (some 2985) (some 2937) = 2961 ∧
      rowsDisagree 20 6018 6002 = false := by decide
/-- The step response of the default filter five scans after the step (section 2.1). -/
theorem test_fir_step :
    firOut (firRaw ⟨0, 64, 192, 384, 640, 1536⟩ 4096 [4096, 4096, 4096, 4096, 4096, 0, 0, 0, 0, 0]) = 2816 := by decide
/-- A trimmed mean of 6,050 against 6,200 at D = 4,096 gives r 4,198, unlimited 4,198, limited 4,137 (section 6.3). -/
theorem test_evaluation : (evaluate (List.replicate 64 6050) 4096 6200) = ⟨6050, 4198, 4198, 4137⟩ := by decide
/-- The later evaluation of section 6.3, from D = 4,137: 4,150, 4,192 and 4,178. -/
theorem test_evaluation_later : (evaluate (List.replicate 64 6120) 4137 6200) = ⟨6120, 4150, 4192, 4178⟩ := by decide
/-- The pass ratios of pass 50,301 (section 6.4). -/
theorem test_pass_ratios :
    passRatio [6500, 9800, 9600] [6420, 9710, 9530] = 4136 ∧ passRatio [6500, 9800, 9600] [6380, 9650, 9470] = 4162 := by decide
/-- The proposals of section 6.4. -/
theorem test_proposals :
    (⟨1389, 4180, 4180, 1, 4136, 4162⟩ : SpeedPoint).proposalU = 4221 ∧
    (⟨1389, 4180, 4180, 1, 4136, 4162⟩ : SpeedPoint).proposalD = 4247 ∧
    (⟨2778, 4050, 4050, 2, 8150, 8203⟩ : SpeedPoint).proposalU = 4029 ∧
    (⟨2778, 4050, 4050, 2, 8150, 8203⟩ : SpeedPoint).proposalD = 4056 := by decide
/-- 2,600 lies nearer the second speed point (section 6.4). -/
theorem test_nearest :
    nearestPoint 2600 [⟨1389, 0, 0, 0, 0, 0⟩, ⟨2778, 0, 0, 0, 0, 0⟩] = 1 ∧
      nearestPoint 1450 [⟨1389, 0, 0, 0, 0, 0⟩, ⟨2778, 0, 0, 0, 0, 0⟩] = 0 := by decide
/-- SITE_MEAN truncates toward zero: −7 / 2 is −3 (R83). -/
theorem test_site_mean :
    ((TempMonitor.start.takeConversion ⟨.all (.all 0), 0, 0⟩).choose ⟨.p1, .p2⟩) = none ∧ Int.tdiv (-7) 2 = -3 := by decide
/-- The step and the third good reading of probe 2 in section 4.8: a spike counted, then 305 + truncate(8 / 8). -/
theorem test_spike :
    (({ ProbeState.start with f := some 305 }).filter 20 340).spikes = 1 ∧
      (({ ProbeState.start with f := some 305, spikes := 1 }).filter 20 313).f = some 306 := by decide

/-! ### One wheel through the detector (section 2.7) -/

/-- A scan of the table: filter output y against baseline 1,000. -/
def wheelScan (y : Int) (n : Word32) : Taken := ⟨y, y - 1000, false, false, n, ⟨1002, 500125⟩⟩
/-- The defaults of a channel. -/
def wheelSet : ChannelSettings := .default
/-- The conditioner in IDLE with b64 = 64,000. -/
def wheelStart : Conditioner := { Conditioner.start true with state := .idle, b64 := 64000 }
/-- The thirteen scans of the table. -/
def wheelEnd : Conditioner :=
  [(1040, 19999), (1520, 20000), (2480, 20001), (3350, 20002), (2900, 20003), (1900, 20004), (1240, 20005), (1130, 20006),
    (1170, 20007), (1100, 20008), (1060, 20009), (1020, 20010), (990, 20011)].foldl
    (fun c (k : Int × Nat) => c.detect wheelSet (wheelScan k.1 (BitVec.ofNat 32 k.2))) wheelStart
/-- The slow step makes b64 64,040 and the pulse freezes it. -/
theorem test_wheel_baseline : wheelEnd.b64 = 64040 ∧ wheelEnd.due = .pulseEnd := by decide
/-- The summary: S 7,690, peak 2,350, duration 8. -/
theorem test_wheel_summary :
    (wheelEnd.summary ⟨.two, .u, .right⟩).map (fun m => (m.area, m.peak, m.dur, m.startScan)) = some (7690, 2350, 8, 20000) := by
  decide

/-! ### A five-axle truck (section 5.9) -/

/-- An axle with no flags. -/
def truckAxle (instant : Instant) (speed left right : Nat) : Axle := ⟨instant, .zero, some speed, left, right, 0, 0, 12, 0⟩
/-- The truck's axles with the spacings of the table. -/
def truck : List HeldAxle :=
  [⟨truckAxle 8000000 2500 3240 3240, 0⟩, ⟨truckAxle 8018432 2500 4625 4625, 360⟩, ⟨truckAxle 8025088 2498 4590 4590, 130⟩,
    ⟨truckAxle 8055808 2498 4650 4650, 600⟩, ⟨truckAxle 8062464 2496 4900 4900, 130⟩]
/-- Rule 4 of the class table. -/
def truckRule : ClassRule :=
  ⟨9, 5, [⟨250, 500⟩, ⟨100, 200⟩, ⟨300, 1100⟩, ⟨100, 200⟩], none, none, ⟨10000, 18000, 24000, 8000, 40000⟩⟩
/-- The spacings of axles 2 to 5. -/
theorem test_truck_spacings :
    axleSpacing (truckAxle 8000000 2500 0 0) (truckAxle 8018432 2500 0 0) = 360 ∧
    axleSpacing (truckAxle 8018432 2500 0 0) (truckAxle 8025088 2498 0 0) = 130 ∧
    axleSpacing (truckAxle 8025088 2498 0 0) (truckAxle 8055808 2498 0 0) = 600 ∧
    axleSpacing (truckAxle 16015552 2222 0 0) (truckAxle 16087552 2220 0 0) = 1249 := by decide
/-- Vehicle speed, groups and gross weight. -/
theorem test_truck_figures :
    vehicleSpeed (axleSpeeds truck) = some 2498 ∧ groupNumbers 200 truck = [1, 2, 2, 3, 3] ∧ grossWeight truck = 44010 ∧
      isAccel (axleSpeeds truck) 2498 = false := by decide
/-- Rule 4 fits, and the overload detail is GROSS with excess 4,010; the verdict is SUSPECT. -/
theorem test_truck_verdict :
    truckRule.fits truck 44010 = true ∧
    exceedances 5 truckRule.limits truck (groupNumbers 200 truck) = [⟨.group, 3, 1100⟩, ⟨.gross, 0, 4010⟩] ∧
    largestExcess [⟨.group, 3, 1100⟩, ⟨.gross, 0, 4010⟩] = some ⟨.gross, 0, 4010⟩ ∧
    verdictOf truck (some ⟨.gross, 0, 4010⟩) 0 = .suspect := by decide

/-- The record of that truck, number 17,406. -/
def truckRecord : Record :=
  { number := 17406, lane := .two, cls := 9, ruleIndex := some 4, verdict := .suspect, flags := 0
    overload := some ⟨.gross, 0, 4010⟩, time := .zero, quality := .locked, generation := 12, speed := some 2498
    gross := 44010, temp := 286, source := .primary
    axles := [⟨3240, 3240, 0, 1, 0⟩, ⟨4625, 4625, 360, 2, 0⟩, ⟨4590, 4590, 130, 2, 0⟩, ⟨4650, 4650, 600, 3, 0⟩,
      ⟨4900, 4900, 130, 3, 0⟩] }
/-- The beginning of its record (section 10.5): size 80, number 0, 0, 67, 254, lane 2, class 9, rule 4, verdict 1, flags 0, kind 3,
index 0, excess 4,010 = 15 × 256 + 170. -/
theorem test_record_bytes :
    truckRecord.bytes.take 17 = [0, 80, 0, 0, 67, 254, 2, 9, 4, 1, 0, 0, 0, 3, 0, 15, 170] ∧ truckRecord.bytes.length = 80 := by
  decide

/-! ### Frames and items -/

set_option maxRecDepth 4000 in
/-- The CRC-16 of the nine ASCII digits 1 to 9 under the parameters of R159 is 29B1H, the published check value of
that CRC. -/
theorem test_crc : crc16 [49, 50, 51, 52, 53, 54, 55, 56, 57] = 0x29B1 := by decide
/-- A frame is six bytes longer than its payload and locates it (R159). -/
theorem test_frame : wholeFrame (buildFrame 1 7 [0, 0, 0, 5]) = true ∧ framePayload (buildFrame 1 7 [0, 0, 0, 5]) = [0, 0, 0, 5] := by
  decide
/-- Item ids of R186: 16 and 17 the scan link's, 96 to 100 the drift tracker's, 112 the arbiter's, 128 to 134 the ports'. -/
theorem test_item_ids :
    Item.ofId? 17 0 = some .linkMode ∧ Item.ofId? 50 3 = some (.speedCurve .two .d) ∧ Item.ofId? 100 2 = some (.driftTarget .two) ∧
      Item.ofId? 112 0 = some .arbiterMode ∧ Item.ofId? 134 3 = some (.privileges .c) ∧ Item.ofId? 48 12 = none := by decide
/-- The cyclic orders of the two levels of the arbiter (section 7.9). -/
theorem test_arbiter_order :
    membersAfter .portGroup = [.recordCommit, .settingsEngine, .portGroup] ∧ portsAfter .c = [.a, .b, .c] := by decide

/-! ### States for the witnesses -/

/-- Every port armed, with factory defaults: unit address 1 and all privileges. -/
def ready : State := State.reset.withPorts (State.reset.port.mapI fun _ q => { q with idle := 20 })
/-- A ready state with the settings in use worked by a function. -/
def readySet (f : Settings → Settings) : State :=
  ready.withSst { ready.sst with active := { ready.sst.active with settings := f ready.sst.active.settings } }
/-- No port has any privilege. -/
def noRights : State := readySet fun cfg => { cfg with port := .all { PortSettings.default with privileges := ⟨false, false, false, false, false⟩ } }
/-- Port A holds the token with a working copy. -/
def heldWith (w : Settings) : State := ready.withSst { ready.sst with edit := some ⟨.a, 7, w⟩ }
/-- Port A holds the token with a working copy like the settings in use. -/
def held : State := heldWith .factory
/-- A class-9 record of lane 2 with no axles and the given number. -/
def smallRecord (n : Nat) : Record := { truckRecord with number := n, axles := [] }
/-- A store that holds records 5 and 6, with next number 8. -/
def stored : State :=
  (ready.withVehicleNumber 9).withRst
    { RecordStore.start with records := [smallRecord 5, smallRecord 6], next := 8, cursor := .all 5 }
/-- A state at the given port with the given fields. -/
def portAs (f : SitePort → SitePort) : State := ready.withPort .a (f (ready.sitePort .a))
/-- The half of a summary on a channel. -/
def half (c : Channel) : Summary := ⟨c, 1000, 500, 8, 100, 48, 1568, .zero, false, false⟩
/-- A lane-1 builder worked by a function, OPEN. -/
def laneAs (f : Builder → Builder) : State := ready.withBuilder .one (f (Builder.start .open))
/-- A vehicle in CLOSING with one axle. -/
def closing : Context := ⟨.closing, true, [⟨truckAxle 100 2500 3000 3000, 0⟩], 0, 1600, some ⟨12000, 12000⟩, 0, .zero, false⟩
/-- A run in the given state owned by port A on lane 1. -/
def runAs (f : RunUnit → RunUnit) : State :=
  held.withRru (f (RunUnit.started .a .one [6500, 9800] [⟨2778, 4096⟩] [⟨2778, 4096⟩]))
/-- A pass pending in a run. -/
def pass : PendingPass := ⟨77, 1450, [6400, 9700], [6420, 9710], [6380, 9650]⟩
/-- An accepted pass. -/
def taken : AcceptedPass := ⟨77, 1450, 0, 4136, 4162, [6400, 9700]⟩

/-- A destination 16 is the group's under group address 16, mask 48 and group enable, and destination 2 is not (section 8.6). -/
theorem test_group_address :
    let s := readySet fun cfg => { cfg with
      site := { cfg.site with groupAddress := 16, groupMask := 48 }, port := .all { PortSettings.default with groupEnable := true } }
    s.addressee .a 16 = .group ∧ s.addressee .a 2 = .noOne ∧ s.addressee .a 63 = .broadcast ∧ s.addressee .a 0x41 = .noOne := by
  decide

/-! ### Witnesses: the step and start-up -/

/-- No member waits where the queue is empty, programming is IDLE and no port waits. -/
theorem no_next {s : State} (h : (s.rst.queue.isEmpty && decide (s.sst.prog = .idle) && Port.all.all fun p => !(s.sitePort p).waits) = true) :
    ∀ m, ¬ NextMember s m := by
  simp only [Bool.and_eq_true, decide_eq_true_eq, List.isEmpty_iff, Port.all, List.all_cons, List.all_nil, Bool.not_eq_true', and_true] at h
  obtain ⟨⟨a, b⟩, c⟩ := h
  rintro (_ | _ | _) ⟨-, w, -⟩
  · exact w a
  · obtain ⟨n, m, w⟩ := w; rw [b] at w; cases w
  · obtain ⟨p, w⟩ := w; cases p <;> simp_all

theorem witness_idle : State.reset.pending = [] ∧ dueCommands State.reset = [] ∧ ∀ m, ¬ NextMember State.reset m :=
  ⟨by decide, by decide, no_next (by decide)⟩
theorem witness_idle_carry :
    let s := State.reset.withSck { State.reset.sck with usAcc := 4294967295, scanAcc := 4294967295 }
    s.pending = [] ∧ dueCommands s = [] ∧ (∀ m, ¬ NextMember s m) ∧ 2 ^ 32 ≤ s.sck.usAcc.toNat + (usWord s.sck.trim).toNat ∧
      2 ^ 32 ≤ s.sck.scanAcc.toNat + (scanWord s.sck.trim).toNat := ⟨by decide, by decide, no_next (by decide), by decide, by decide⟩
/-- A vehicle, a programming step and a port's request wait for the engine, each alone. -/
theorem witness_grants :
    let q := State.reset.withRst { State.reset.rst with queue := [truckRecord] }
    let g := State.reset.withSst { State.reset.sst with prog := .ready 1 .factory }
    let w := State.reset.withPort .a { State.reset.sitePort .a with state := .execute, rx := [1, 2, 0, 0] }
    (q.pending = [] ∧ dueCommands q = [] ∧ NextMember q .recordCommit) ∧ (g.pending = [] ∧ dueCommands g = [] ∧ NextMember g .settingsEngine) ∧
      w.pending = [] ∧ dueCommands w = [] ∧ NextMember w .portGroup := by
  refine ⟨⟨by decide, by decide, by decide, by unfold MemberWaits; decide, fun k w => ?_⟩,
    ⟨by decide, by decide, by decide, ⟨1, .factory, by decide⟩, fun k w => ?_⟩, by decide, by decide, by decide, ⟨.a, by decide⟩, fun k w => ?_⟩
  · cases k <;> decide
  · cases k <;> first | decide | exact absurd rfl w
  · cases k <;> first | decide | exact absurd rfl w | (obtain ⟨n, m, w⟩ := w; cases w)
/-- The last bit of a reply of one byte; a reference period within a bit time; a request's age one period before 4 bit times (R164). -/
theorem witness_idle_bits :
    let q := State.reset.sitePort .a
    let s := State.reset.withPort .a { q with state := .reply, reply := [7], driving := true, sentBits := 9, bitPhase := 19884800 }
    let r := State.reset.withPort .a { q with state := .reply, frameAge := 79999999 }
    (s.pending = [] ∧ dueCommands s = [] ∧ ∀ m, ¬ NextMember s m) ∧ (r.pending = [] ∧ dueCommands r = [] ∧ ∀ m, ¬ NextMember r m) ∧
      20000000 ≤ (s.sitePort .a).bitPhase + (s.sitePort .a).rate.bitsPerSecond ∧
      10 * (s.sitePort .a).reply.length ≤ (s.sitePort .a).sentBits + 1 ∧
      ¬ 20000000 ≤ (r.sitePort .a).bitPhase + (r.sitePort .a).rate.bitsPerSecond ∧ (r.sitePort .a).driving = false :=
  ⟨⟨by decide, by decide, no_next (by decide)⟩, ⟨by decide, by decide, no_next (by decide)⟩, by decide, by decide, by decide, by decide⟩
/-- A pulse end waits to be taken; a request's frame has ended four bit times ago; a quiet line reaches its 20th bit time. -/
theorem witness_due :
    (State.reset.withConditioner ⟨.one, .u, .left⟩ { Conditioner.start true with due := .pulseEnd }).pending = [] ∧
      Instr.pulseEnd ⟨.one, .u, .left⟩ ∈
        dueCommands (State.reset.withConditioner ⟨.one, .u, .left⟩ { Conditioner.start true with due := .pulseEnd }) ∧
      Instr.replyStart .a ∈ dueCommands
        (State.reset.withPort .a { State.reset.sitePort .a with state := .reply, frameAge := 80000000 }) ∧
      Instr.replyStart .a ∉ dueCommands
        (State.reset.withPort .a { State.reset.sitePort .a with state := .reply, frameAge := 79999999 }) := by decide
theorem witness_idle_armed :
    let s := State.reset.withPort .a { State.reset.sitePort .a with idle := 19, bitPhase := 19884800 }
    s.pending = [] ∧ dueCommands s = [] ∧ (∀ m, ¬ NextMember s m) ∧ (s.sitePort .a).driving = false ∧ (s.sitePort .a).idle = 19 ∧
      20000000 ≤ (s.sitePort .a).bitPhase + (s.sitePort .a).rate.bitsPerSecond :=
  ⟨by decide, by decide, no_next (by decide), by decide, by decide, by decide⟩
/-- A port that drives its reply, in the bit time that makes its idle count 20: the last of a byte, or not. -/
def drivingAt (sent : Nat) : State := State.reset.withPort .a { State.reset.sitePort .a with
  state := .reply, reply := [7, 8], driving := true, sentBits := sent, idle := 19, bitPhase := 19884800 }
theorem witness_idle_driving :
    ((drivingAt 9).pending = [] ∧ dueCommands (drivingAt 9) = [] ∧ ∀ m, ¬ NextMember (drivingAt 9) m) ∧
      ((drivingAt 4).pending = [] ∧ dueCommands (drivingAt 4) = [] ∧ ∀ m, ¬ NextMember (drivingAt 4) m) ∧
      min 20 (9 + 1) % 10 = 0 ∧ ¬ min 20 (4 + 1) % 10 = 0 :=
  ⟨⟨by decide, by decide, no_next (by decide)⟩, ⟨by decide, by decide, no_next (by decide)⟩, by decide, by decide⟩
/-- A byte that the port sends is a byte seen on its line and restarts the count; a bit time within it does not (R160). -/
theorem test_sent_byte_restarts_idle :
    ((drivingAt 9).sitePort .a).period.idle = 0 ∧ ((drivingAt 9).sitePort .a).arms = false ∧ ((drivingAt 4).sitePort .a).arms = true := by
  decide
/-- A line that is quiet for 20 bit times as a RESTART's reply ends is armed before that end, so that the start-up leaves its idle count
at 0 (R160, R172, R174). -/
theorem test_restart_leaves_no_port_armed :
    let s := (State.reset.withPort .a { State.reset.sitePort .a with
      state := .reply, reply := [7], driving := true, restarting := true, sentBits := 9, bitPhase := 19884800 }).withPort .b
      { State.reset.sitePort .b with idle := 19, bitPhase := 19884800 }
    (referencePeriod s).pending = [.portArmed .b, .replySent .a] := by decide
theorem witness_start_defaults : State.reset.sst.nvGood = false := by decide
theorem witness_start_stored : (State.reset.withSst { State.reset.sst with nvGood := true }).sst.nvGood = true := by decide

/-! ### Witnesses: site clock -/

theorem witness_holdover :
    let s := State.reset.withSck { State.reset.sck with timeState := .locked, holdover := some 80000 }
    s.sck.timeState = .locked ∧ s.sck.holdover = some 80000 := by decide
theorem witness_mark_expiry :
    let s := State.reset.withSck { State.reset.sck with mark := some ⟨5, 12000⟩ }
    s.sck.mark = some ⟨5, 12000⟩ ∧ (⟨5, 12000⟩ : TimeMark).strobes = 12000 := by decide
theorem witness_unmarked : State.reset.sck.mark = none := by decide
theorem witness_stepped_unset :
    let s := State.reset.withSck { State.reset.sck with mark := some ⟨0, 3⟩ }
    s.sck.mark = some ⟨0, 3⟩ ∧ s.sck.timeState = .unset := by decide
theorem witness_stepped_error :
    let s := State.reset.withSck { State.reset.sck with mark := some ⟨0, 3⟩, timeState := .locked, time := ⟨0, 1001⟩ }
    s.sck.mark = some ⟨0, 3⟩ ∧ 1000 < ((s.sck.time.sec - 0).toInt * 1000000 + s.sck.time.us).natAbs := by decide
theorem witness_slewed :
    let s := State.reset.withSck { State.reset.sck with mark := some ⟨0, 3⟩, timeState := .holdover, time := ⟨0, 1000⟩ }
    s.sck.mark = some ⟨0, 3⟩ ∧ ¬ (s.sck.timeState = .unset ∨ s.sck.timeState = .set ∨
      1000 < ((s.sck.time.sec - 0).toInt * 1000000 + s.sck.time.us).natAbs) := by decide

/-! ### Witnesses: scan link -/

/-- A scan of zeros. -/
def zeroScan : Scan := ⟨.all (.all 0), 0, 0⟩
/-- The link in RUNNING with one scan at the read position. -/
def oneScan : State :=
  ready.withSlr { Link.start with state := .running, buf := (List.replicate 16 Entry.empty).set 0 (.scan zeroScan), wr := 1, occ := 1 }
set_option maxRecDepth 100000 in
theorem witness_deliver :
    settle oneScan = oneScan ∧ oneScan.slr.state = .running ∧ 0 < oneScan.slr.occ ∧
      oneScan.slr.buf[oneScan.slr.rd]? = some (.scan zeroScan) := by decide
set_option maxRecDepth 100000 in
theorem witness_deliver_nothing : settle State.reset = State.reset ∧ State.reset.slr.state ≠ .running := by decide
set_option maxRecDepth 100000 in
theorem witness_deliver_fill :
    let s := oneScan.withSlr { oneScan.slr with buf := oneScan.slr.buf.set 0 .fill }
    settle s = s ∧ s.slr.state = .running ∧ 0 < s.slr.occ ∧ s.slr.buf[s.slr.rd]? = some .fill := by decide
set_option maxRecDepth 100000 in
theorem witness_deliver_empty :
    let s := oneScan.withSlr { oneScan.slr with occ := 0, lastScan := some zeroScan }
    let n := oneScan.withSlr { oneScan.slr with occ := 0 }
    settle s = s ∧ s.slr.state = .running ∧ s.slr.occ = 0 ∧ s.slr.lastScan = some zeroScan ∧ settle n = n ∧ n.slr.lastScan = none := by
  decide
/-- Nothing is due, and every count runs: the close timer, the trigger, a loop sampled against its state, a present loop, a stale timer,
a held time about to be complete and one not, a run and a lease. -/
def counting : State :=
  let s := ((oneScan.withBuilder .one { Builder.start .open with ctx := { closing with timer := some ⟨5, 12000⟩ }, pulse := some ⟨1, 160⟩ }).withBuilder
    .two { Builder.start .open with present := true, pend := 3, presentCount := 959998 }).withSst
      { oneScan.sst with edit := some ⟨.a, 959998, .factory⟩ }
  (s.withRru { s.rru with armed := some 14399998, pendTimer := some 2399998 }).withPtm { s.ptm with
    probe := s.ptm.probe.set .p0 { ProbeState.start with state := .good, stale := some 23998 }
    lane := ⟨⟨200, .held, 5, false, false, false⟩, ⟨200, .held, 7199999, false, false, false⟩, ⟨200, .primary, 0, false, false, false⟩⟩ }
set_option maxRecDepth 100000 in
theorem witness_counts :
    settle counting = counting ∧ counting.slr.state ≠ .down ∧ (counting.laneTemp .one).source = .held ∧
      (counting.laneTemp .one).held + 1 < 7200000 ∧ (counting.laneTemp .two).held + 1 = 7200000 ∧
      (counting.laneTemp .three).source ≠ .held ∧ (5 : BitVec 6).getLsbD ((counting.laneSet .one).loopLine - 1) = true := by decide
/-- What a conversion is to the slot reference: the first one, its successor, or out of order (R74). -/
theorem witness_conversion :
    oneScan.ptm.slotRef = none ∧ Probe.succ .p3 = .p0 ∧ zeroScan.slot = .p0 ∧ Probe.succ .p0 ≠ .p0 := by decide
/-- The settings in use with narrow mode. -/
def narrow : State := readySet fun cfg => { cfg with site := { cfg.site with linkMode := .narrow } }
theorem witness_marker :
    State.reset.slr.state ≠ .running ∧ State.reset.site.linkMode = .wide ∧ State.reset.slr.buf.length = 16 ∧
      State.reset.slr.rd < 16 ∧ State.reset.site.bufferOffset ≤ 16 := by decide
theorem witness_marker_narrow :
    let s := narrow.withSlr { Link.start with state := .aligning, halfMarker := true }
    s.slr.state = .aligning ∧ s.site.linkMode = .narrow ∧ s.slr.halfMarker = true ∧ narrow.slr.state = .down := by decide
theorem witness_arrival_joins :
    let s := ready.withSlr { Link.start with state := .running, partialScan := List.replicate 13 0 }
    s.slr.state = .running ∧ s.site.linkMode = .wide ∧ 1 ≤ s.slr.partialScan.length ∧ s.slr.partialScan.length + 1 < 15 := by decide
/-- The arrivals that begin a scan: the one word of wide mode, and the first and second half of narrow mode (R13). -/
theorem witness_scan_begins :
    let w := ready.withSlr { Link.start with state := .running }
    let n := narrow.withSlr { Link.start with state := .running }
    let m := narrow.withSlr { Link.start with state := .running, partialScan := [0x1234] }
    w.slr.state = .running ∧ w.site.linkMode = .wide ∧ w.slr.partialScan.length < 1 ∧ n.slr.state = .running ∧
      n.site.linkMode = .narrow ∧ n.slr.partialScan.length < 2 ∧ m.site.linkMode = .narrow ∧ m.slr.partialScan.length = 1 := by decide
theorem witness_complete :
    let s := ready.withSlr { Link.start with state := .running, occ := 15, partialScan := List.replicate 14 0 }
    s.slr.state = .running ∧ s.site.linkMode = .wide ∧ s.slr.partialScan.length = 14 ∧ s.slr.occ < 16 := by decide
theorem witness_complete_full :
    let s := ready.withSlr { Link.start with state := .running, occ := 16, partialScan := List.replicate 14 0 }
    s.slr.state = .running ∧ s.site.linkMode = .wide ∧ s.slr.partialScan.length = 14 ∧ ¬ s.slr.occ < 16 := by decide
theorem witness_silence :
    let s := ready.withSlr { Link.start with state := .running, silence := 4 }
    let a := ready.withSlr { Link.start with state := .aligning, silence := 4 }
    s.slr.silence = 4 ∧ s.slr.state ≠ .down ∧ a.slr.silence = 4 ∧ a.slr.state = .aligning ∧
      (s.conditioner ⟨.one, .u, .left⟩).state ≠ .disabled := by decide
/-- A link loss with a half in a slot and an older and a younger U entry, all of lane 1, whose vehicle stands in CLOSING. -/
def losing : State :=
  let m (k : Instant) : Summary := ⟨⟨.one, .u, .left⟩, 1000, 500, 8, 100, 48, k, .zero, false, false⟩
  ((((ready.withSck { ready.sck with present := 200 }).withSlr { Link.start with state := .running, silence := 4 }).withSlot ⟨.one, .u, .left⟩
    (.waiting (m 1568))).withUpstream .one [oneTrackOf (m 1000), oneTrackOf (m 2000)]).withBuilder .one { Builder.start .open with ctx :=
      ⟨.closing, true, [], 0, 1600, some ⟨0, 12000⟩, 0, .zero, false⟩ }
theorem witness_loss_flushes :
    losing.slr.state = .running ∧ losing.slr.silence = 4 ∧
      (Channel.all.all fun c => (losing.slot c).held.all fun m => decide (m.ch = c)) = true ∧
      (Lane.all.all fun l => (losing.former l).upstream.all fun e => decide (e.lane = l)) = true ∧
      (losing.flushed .one).map (fun r => r.instant) = [1000, 2000, 1568] ∧ (losing.former .one).upstream.length = 2 ∧
      0 ≤ fineSpan 2000 1000 ∧ (∀ e ∈ losing.flushed .one, (fineSpan (fineOfScan losing.sck.present) e.instant).natAbs < 2 ^ 33) := by
  decide
/-- The three axles reach the vehicle in the order of their instants, before it is sealed with LINK_LOSS (R70). -/
theorem test_loss_flushes_in_order :
    ((losing.arrivals .one ((insertAll (heldHalves (losing.former .one)) (losing.former .one).upstream).map (unpairedAxle losing))).ctx
      .one).axles.map (fun h => h.axle.instant) = [1000, 1568, 2000] ∧
      (linkSilence losing).rst.queue.map (fun r => (r.axles.length, hasAny r.flags VFlag.linkLoss)) = [(3, true)] := by decide
/-- A tagged word in the middle of a scan, an untagged one in place of the marker, and both in narrow mode (R13). -/
theorem witness_framing :
    let s := ready.withSlr { Link.start with state := .running, partialScan := [0] }
    let u := ready.withSlr { Link.start with state := .running }
    let n := narrow.withSlr { Link.start with state := .running, partialScan := [0] }
    s.slr.state = .running ∧ true ≠ decide (s.slr.partialScan.length < (if s.site.linkMode = .wide then 1 else 2)) ∧
      u.slr.state = .running ∧ false ≠ decide (u.slr.partialScan.length < (if u.site.linkMode = .wide then 1 else 2)) ∧
      n.site.linkMode = .narrow ∧ false ≠ decide (n.slr.partialScan.length < (if n.site.linkMode = .wide then 1 else 2)) := by decide
/-- With nothing in the formers, a link loss meets a vehicle with an axle, a continuation without one, and an idle lane. -/
theorem witness_loss_vehicles :
    let s := (ready.withBuilder .one { Builder.start .open with ctx := closing }).withBuilder .two
      { Builder.start .open with ctx := { closing with axles := [], cont := true } }
    (∀ l ∈ [Lane.one, .two, .three], (s.former l).slots = .all .empty ∧ (s.former l).upstream = []) ∧
      (s.ctx .one).state ≠ .idle ∧ (s.ctx .one).axles ≠ [] ∧ (s.ctx .two).cont = true ∧ (s.ctx .two).axles = [] ∧
      (s.ctx .three).state = .idle ∧ s.rst.queue.length ≤ 1 ∧ s.vehicleNumber + 3 ≤ 4294967295 := by decide

/-! ### Witnesses: conditioners and axle formers -/

/-- A conditioner on channel 0 worked by a function. -/
def condAs (f : Conditioner → Conditioner) : State :=
  ready.withConditioner ⟨.one, .u, .left⟩ (f (ready.conditioner ⟨.one, .u, .left⟩))
theorem witness_acquire :
    ((condAs fun c => { c with due := .acquireComplete }).conditioner ⟨.one, .u, .left⟩).due = .acquireComplete ∧
    ((condAs fun c => { c with due := .recoverComplete }).conditioner ⟨.one, .u, .left⟩).due = .recoverComplete := by decide
/-- A conditioner in each state of the detector that the statement of a delivered scan speaks of: quiet and loud in IDLE; a pulse scan,
a tail scan, the last tail scan and an over-long pulse (spans 0 and 4,000). -/
theorem witness_scans :
    let idle := { Conditioner.start true with state := .idle }
    let pulse := { Conditioner.start true with state := .pulse, startScan := 7 }
    let set := ChannelSettings.default
    (Conditioner.start false).state = .disabled ∧ (Conditioner.start true).state = .acquire ∧ (Conditioner.start true).acq = 0 ∧
      idle.hist = [] ∧ (400 : Int) - idle.b64 / 64 ≤ set.tOn ∧ (set.tOn : Int) < 401 - idle.b64 / 64 ∧
      ((7 : Word32) - pulse.startScan).toNat < 4000 ∧ 4000 ≤ ((4007 : Word32) - pulse.startScan).toNat ∧
      (set.tOff : Int) ≤ 150 ∧ (149 : Int) < set.tOff ∧ pulse.tail + 1 < set.hold ∧ set.hold ≤ 3 + 1 := by decide
/-- A pulse that ends. -/
def ended (lastOff : Nat) (area : Int) : State :=
  condAs fun c => { c with state := .tail, due := .pulseEnd, com := ⟨area, 30, 20, lastOff, false, false⟩ }
theorem witness_pulse_kept :
    let k := (ended 2 1).conditioner ⟨.one, .u, .left⟩
    k.due = .pulseEnd ∧ (ended 2 1).slot ⟨.one, .u, .left⟩ = .empty ∧ (ended 2 1).slot (opposite ⟨.one, .u, .left⟩) = .empty ∧
      3 ≤ k.com.lastOff + 1 ∧ 0 < k.com.area := by decide
theorem witness_pulse_dropped :
    let k := (ended 1 1).conditioner ⟨.one, .u, .left⟩
    let j := (ended 2 0).conditioner ⟨.one, .u, .left⟩
    k.due = .pulseEnd ∧ k.com.lastOff + 1 < 3 ∧ j.due = .pulseEnd ∧ j.com.area ≤ 0 := by decide
/-- An older half of the same channel is still OPEN when the pulse ends. -/
theorem witness_pulse_displaces :
    let s := (ended 2 1).withSlot ⟨.one, .u, .left⟩ (.open (half ⟨.one, .u, .left⟩) 5)
    s.slot ⟨.one, .u, .left⟩ = .open (half ⟨.one, .u, .left⟩) 5 ∧ s.slot (opposite ⟨.one, .u, .left⟩) = .empty ∧
      facing ⟨.one, .u, .left⟩ = none ∧ (s.former .one).upstream = [] ∧ (s.ctx .one).state ≠ .deferred ∧
      (s.conditioner ⟨.one, .u, .left⟩).due = .pulseEnd := by decide
/-- An older half of the U right or of the D right channel of lane 1 in its slot when a pulse of it ends, OPEN or WAITING, with the given half
of lane 2 facing it, and the opposite half 129 sixteenths from the new one, just beyond the tolerance. -/
def displacing (row : Row) (own face : Slot) : State :=
  let c : Channel := ⟨.one, row, .right⟩
  (((ready.withConditioner c { Conditioner.start true with
      state := .tail, due := .pulseEnd, startScan := 100, com := ⟨1, 3, 20, 7, false, false⟩ }).withSlot c own).withSlot ⟨.two, row, .left⟩
    face).withSlot ⟨.one, row, .left⟩ (.open { half ⟨.one, row, .left⟩ with centroid := 1697 } 7)
theorem witness_pulse_displaced :
    ∀ row ∈ [Row.u, .d],
      let c : Channel := ⟨.one, row, .right⟩
      let k := half ⟨.two, row, .left⟩
      ∀ own ∈ [Slot.open (half c) 5, .waiting (half c)],
        ∀ face ∈ [Slot.empty, .open k 9, .waiting k, .waiting { k with centroid := 1697 }],
          ((displacing row own face).conditioner c).due = .pulseEnd ∧
            (((displacing row own face).conditioner c).summary c).map (·.centroid) = some 1568 ∧
            (displacing row own face).slot (opposite c) = .open { half ⟨.one, row, .left⟩ with centroid := 1697 } 7 ∧
            (displacing row own face).slot c = own ∧ (displacing row own face).slot ⟨.two, row, .left⟩ = face ∧
            facing c = some ⟨.two, row, .left⟩ := by decide
theorem witness_pulse_displaced_spans :
    ready.site.coincidence = 8 ∧ 16 * 8 < (fineSpan 1568 1697).natAbs ∧ (half ⟨.one, .d, .right⟩).ch = ⟨.one, .d, .right⟩ ∧
      (half ⟨.two, .d, .left⟩).ch = ⟨.two, .d, .left⟩ ∧ (fineSpan 1568 1568).natAbs ≤ 16 * 8 := by decide
/-- A displaced WAITING half joins the list as a one-track row pulse; the half it waited for stays (R45). -/
theorem test_waiting_half_displaced :
    let c : Channel := ⟨.one, .u, .right⟩
    let k := half ⟨.two, .u, .left⟩
    let t := pulseEnd c (displacing .u (.waiting (half c)) (.open k 9))
    (t.former .one).upstream = [oneTrackOf (half c)] ∧ t.slot ⟨.two, .u, .left⟩ = .open k 9 := by decide
theorem witness_abandon : ((condAs fun c => { c with due := .abandon }).conditioner ⟨.one, .u, .left⟩).due = .abandon := by decide
/-- The halves of lane 1's U row open, their windows ending now, with an empty list. -/
def windows : State :=
  (ready.withSlot ⟨.one, .u, .left⟩ (.open (half ⟨.one, .u, .left⟩) 0)).withSlot ⟨.one, .u, .right⟩
    (.open (half ⟨.one, .u, .right⟩) 0)
theorem witness_window_kerb :
    windows.slot ⟨.one, .u, .left⟩ = .open (half ⟨.one, .u, .left⟩) windows.sck.present ∧
      facing ⟨.one, .u, .left⟩ = none ∧ (windows.former .one).upstream = [] ∧ (windows.ctx .one).state ≠ .deferred := by decide
theorem witness_window_edge :
    windows.slot ⟨.one, .u, .right⟩ = .open (half ⟨.one, .u, .right⟩) windows.sck.present ∧
      facing ⟨.one, .u, .right⟩ = some ⟨.two, .u, .left⟩ ∧ windows.slot ⟨.two, .u, .left⟩ = .empty ∧
      (windows.former .one).upstream = [] ∧ (windows.ctx .one).state ≠ .deferred ∧ windows.site.coincidence ≤ 64 := by decide
/-- The facing half of lane 2 OPEN at the same instant, OPEN far from it, or WAITING. -/
def faced (x : Slot) : State := windows.withSlot ⟨.two, .u, .left⟩ x
theorem witness_window_faced :
    let c : Channel := ⟨.one, .u, .right⟩
    let n := half ⟨.two, .u, .left⟩
    facing c = some ⟨.two, .u, .left⟩ ∧ (half c).ch = c ∧ (half c).centroid = 1568 ∧ windows.site.coincidence = 8 ∧
      (∀ x ∈ [Slot.open n 9, .open { n with centroid := 1697 } 9, .waiting n],
        (faced x).slot c = .open (half c) (faced x).sck.present ∧ (faced x).slot ⟨.two, .u, .left⟩ = x) ∧
      (fineSpan 1568 n.centroid).natAbs ≤ 128 ∧ ¬ (fineSpan 1568 1697).natAbs ≤ 128 ∧ n.ch = ⟨.two, .u, .left⟩ ∧
      ((faced (.waiting n)).former .two).upstream = [] ∧ ((faced (.waiting n)).ctx .two).state ≠ .deferred := by decide
/-- A U entry of lane 1 at an instant, its left half alone. -/
def upAt (k : Instant) : RowPulse := oneTrackOf { half ⟨.one, .u, .left⟩ with centroid := k }
/-- Lists of lane 1 into which a row pulse at 1,568 goes: of seven entries and of eight, three of them later, one of the earlier ones at
the same instant; and of eight later ones, where it is itself the oldest of the nine. -/
theorem witness_window_lists :
    let early := [upAt 1000, upAt 1100, upAt 1200, upAt 1568]
    let late := [upAt 1569, upAt 1700, upAt 1800]
    let first := upAt 900
    let later := late ++ [upAt 1900, upAt 2000, upAt 2100, upAt 2200, upAt 2300]
    let c : Channel := ⟨.one, .u, .left⟩
    (∀ list ∈ [early ++ late, (first :: early) ++ late, [] ++ later],
      (windows.withUpstream .one list).slot c = .open (half c) (windows.withUpstream .one list).sck.present ∧
        (∀ e ∈ list, e.lane = (oneTrackOf (half c)).lane) ∧ ((windows.withUpstream .one list).former .one).upstream = list) ∧
      (∀ e ∈ first :: early, 0 ≤ fineSpan (oneTrackOf (half c)).instant e.instant) ∧
      (∀ e ∈ later, fineSpan (oneTrackOf (half c)).instant e.instant < 0) ∧
      (early ++ late).length = 7 ∧ ((first :: early) ++ late).length = 8 ∧ later.length = 8 := by decide
/-- A row pulse goes after the entry of its own instant (R54), and a ninth entry forces the oldest of the nine out. -/
theorem test_ninth_entry_forced_out :
    let eight := [upAt 900, upAt 1000, upAt 1100, upAt 1200, upAt 1568, upAt 1569, upAt 1700, upAt 1800]
    ((halfWindowEnd ⟨.one, .u, .left⟩ (windows.withUpstream .one eight)).former .one).upstream =
      [upAt 1000, upAt 1100, upAt 1200, upAt 1568, oneTrackOf (half ⟨.one, .u, .left⟩), upAt 1569, upAt 1700, upAt 1800] := by decide
/-- A D half whose window ends meets the facing half WAITING, with and without a candidate in the owner's list. -/
theorem witness_window_straddle_d :
    let c : Channel := ⟨.one, .d, .right⟩
    let n := half ⟨.two, .d, .left⟩
    let s := ((ready.withSlot c (.open (half c) 0)).withSlot ⟨.two, .d, .left⟩ (.waiting n)).withUpstream .one
      [upAt 200]
    facing c = some ⟨.two, .d, .left⟩ ∧ s.slot c = .open (half c) s.sck.present ∧ s.slot ⟨.two, .d, .left⟩ = .waiting n ∧
      n.ch = ⟨.two, .d, .left⟩ ∧ (fineSpan (half c).centroid n.centroid).natAbs ≤ 128 ∧ s.site.coincidence = 8 ∧
      (∀ e ∈ (s.former .one).upstream, e.lane = .one) ∧ (s.former .two).upstream = [] := by decide
/-- A window end on each row with the facing half of lane 2 beyond the tolerance, OPEN or WAITING (R47, log 10). -/
theorem witness_window_far :
    ∀ row ∈ [Row.u, .d],
      let c : Channel := ⟨.one, row, .right⟩
      let n : Summary := { half ⟨.two, row, .left⟩ with centroid := 1697 }
      ∀ x ∈ [Slot.open n 9, .waiting n],
        let s := (ready.withSlot c (.open (half c) 0)).withSlot ⟨.two, row, .left⟩ x
        facing c = some ⟨.two, row, .left⟩ ∧ s.slot c = .open (half c) s.sck.present ∧ s.slot ⟨.two, row, .left⟩ = x ∧
          s.site.coincidence = 8 ∧ 128 < (fineSpan (half c).centroid n.centroid).natAbs ∧ n.ch = ⟨.two, row, .left⟩ := by decide
/-- Every slot's half is of its own channel. -/
theorem slots_ok {s : State} (h : (Channel.all.all fun c => (s.slot c).held.all fun m => decide (m.ch = c)) = true) : SlotsOk s := by
  rintro ⟨l, r, sd⟩ m hm
  have := List.all_eq_true.mp h ⟨l, r, sd⟩ (by cases l <;> cases r <;> cases sd <;> decide)
  rw [hm] at this
  exact of_decide_eq_true this
/-- Every list's entries are of its own lane. -/
theorem lists_ok {s : State} (h : (Lane.all.all fun l => (s.former l).upstream.all fun e => decide (e.lane = l)) = true) : ListsOk s := by
  intro l e he
  have := List.all_eq_true.mp h l (by cases l <;> decide)
  exact of_decide_eq_true (List.all_eq_true.mp this e he)
/-- With the facing half WAITING beyond the tolerance, every list holds entries of its own lane: a displaced half, and a window end into a
full list. -/
theorem witness_far_lists :
    let k : Summary := { half ⟨.two, .u, .left⟩ with centroid := 1697 }
    let eight := [upAt 900, upAt 1000, upAt 1100, upAt 1200, upAt 1568, upAt 1569, upAt 1700, upAt 1800]
    ListsOk (displacing .u (.open (half ⟨.one, .u, .right⟩) 5) (.waiting k)) ∧ ListsOk (faced (.waiting k)) ∧
      ListsOk ((faced (.waiting k)).withUpstream .one eight) :=
  ⟨lists_ok (by decide), lists_ok (by decide), lists_ok (by decide)⟩
/-- The pulse of lane 1's U right ends while the left half is OPEN, for which lane 2's facing half waits. -/
def pairing : State :=
  (((State.reset.withConditioner ⟨.one, .u, .left⟩ { Conditioner.start true with
      state := .tail, due := .pulseEnd, startScan := 100, com := ⟨1, 3, 20, 7, false, false⟩ }).withSlot ⟨.one, .u, .right⟩
      (.open (half ⟨.one, .u, .right⟩) 105)).withSlot ⟨.two, .u, .left⟩ (.waiting (half ⟨.two, .u, .left⟩)))
theorem witness_pairing_slots : SlotsOk pairing ∧ ListsOk pairing ∧ pairing.site.coincidence ≤ 64 :=
  ⟨slots_ok (by decide), lists_ok (by decide), by decide⟩
theorem witness_pairing :
    let c : Channel := ⟨.one, .u, .left⟩
    let n := half ⟨.one, .u, .right⟩
    (pairing.conditioner c).due = .pulseEnd ∧
      ((pairing.conditioner c).summary c).map (fun m => (fineSpan m.centroid n.centroid).natAbs) = some 0 ∧
      pairing.slot (opposite c) = .open n 105 ∧ n.ch = opposite c ∧ facing (opposite c) = some ⟨.two, .u, .left⟩ ∧
      pairing.slot ⟨.two, .u, .left⟩ = .waiting (half ⟨.two, .u, .left⟩) ∧
      ∀ l ∈ [Lane.one, .two, .three], (pairing.former l).upstream = [] ∧ (pairing.ctx l).state ≠ .deferred := by decide
/-- A D half of lane 1 whose window ends, with an entry too old, a candidate at 2,500 cm/s and a younger entry in the list. -/
def downstream : State :=
  (((laneAs id).withSlot ⟨.one, .d, .left⟩ (.open { half ⟨.one, .d, .left⟩ with centroid := 900000 } 0))).withUpstream .one
    [oneTrackOf { half ⟨.one, .u, .left⟩ with centroid := 200000 }, oneTrackOf { half ⟨.one, .u, .left⟩ with centroid := 884640 },
      oneTrackOf { half ⟨.one, .u, .left⟩ with centroid := 899990 }]
theorem witness_downstream :
    let c : Channel := ⟨.one, .d, .left⟩
    downstream.slot c = .open { half c with centroid := 900000 } downstream.sck.present ∧ facing c = none ∧
      (∀ e ∈ (downstream.former .one).upstream, e.lane = .one) ∧ (downstream.builder .one).mode = .open ∧
      (downstream.ctx .one).state = .idle ∧ (downstream.laneSet .one).rowSpacing = 3000 ∧ Candidate 3000 900000 884640 2500 := by
  refine ⟨by decide, by decide, by decide, by decide, by decide, by decide, ?_⟩; unfold Candidate; decide
/-- The second D half of lane 1's axle: its pulse ends while the right half stands in its slot, OPEN or WAITING, at the same instant, with
an entry too old, a candidate at 2,500 cm/s and a younger entry in the list. -/
def wholeAxle (x : Slot) : State :=
  ((downstream.withSlot ⟨.one, .d, .left⟩ .empty).withSlot ⟨.one, .d, .right⟩ x).withConditioner ⟨.one, .d, .left⟩
    { Conditioner.start true with state := .tail, due := .pulseEnd, startScan := 56252, com := ⟨1, 3, 20, 7, false, false⟩ }
/-- The right half of that axle. -/
def rightHalf : Summary := { half ⟨.one, .d, .right⟩ with centroid := 900000 }
theorem witness_whole_axle :
    let c : Channel := ⟨.one, .d, .left⟩
    ∀ x ∈ [Slot.open rightHalf 9, .waiting rightHalf], (wholeAxle x).site.coincidence ≤ 64 ∧
      (Channel.all.all fun k => ((wholeAxle x).slot k).held.all fun m => decide (m.ch = k)) = true ∧
      (Lane.all.all fun l => ((wholeAxle x).former l).upstream.all fun e => decide (e.lane = l)) = true ∧
      ((wholeAxle x).conditioner c).due = .pulseEnd ∧ (((wholeAxle x).conditioner c).summary c).map (·.centroid) = some 900000 ∧
      ((wholeAxle x).slot (opposite c)).held = some rightHalf ∧ ((wholeAxle x).builder .one).mode = .open ∧
      ((wholeAxle x).ctx .one).state = .idle := by decide
theorem witness_whole_axle_lists : SlotsOk (wholeAxle (.open rightHalf 9)) ∧ ListsOk (wholeAxle (.open rightHalf 9)) :=
  ⟨slots_ok (by decide), lists_ok (by decide)⟩
/-- The axle that then arrives is at the instant of its U row pulse, 884,640, at 2,500 cm/s (R59, R66). -/
theorem test_whole_axle_paired :
    ((pulseEnd ⟨.one, .d, .left⟩ (wholeAxle (.open rightHalf 9))).ctx .one).axles.getLast?.map
      (fun h => (h.axle.instant, h.axle.speed)) = some (884640, some 2500) := by decide
/-- Too old an entry gives a speed below 56, too young a one above 6,945, at every speed the statement names. -/
theorem witness_no_candidate : (∀ v, ¬ Candidate 3000 900000 200000 v) ∧ ∀ v, ¬ Candidate 3000 900000 899990 v := by
  constructor <;> rintro v ⟨-, rfl, h⟩ <;> revert h <;> decide
/-- An upstream entry at the expiry limit of 685,715 sixteenths and one beyond it, seen from scan 100,000. -/
def aged : State :=
  ((ready.withSck { ready.sck with present := 100000 }).withFormer .one { AxleFormer.start with limit := 685715 }).withUpstream .one
    [⟨.one, .u, 914284, some (half ⟨.one, .u, .left⟩), none, false⟩, ⟨.one, .u, 914285, some (half ⟨.one, .u, .left⟩), none, false⟩]
theorem witness_expiry :
    (∀ e ∈ (aged.former .one).upstream, e.lane = .one) ∧ (aged.builder .one).mode = .closed ∧ (aged.ctx .one).state = .idle ∧
      ((aged.former .one).upstream.map (isExpired aged .one)) = [true, false] := by decide

/-- That lane with both channels of the U row at a miss count of 31, and an expired straddle entry beside the expired one, which lacks its
right half alone. -/
def nearSilent : State :=
  (aged.withFormer .one { (aged.former .one) with miss := ⟨31, 31, 0, 0⟩ }).withUpstream .one
    [{ upAt 100000 with straddle := true }, upAt 200000]
theorem witness_goes_silent :
    (∀ e ∈ (nearSilent.former .one).upstream, e.lane = .one ∧ isExpired nearSilent .one e = true) ∧
      ownRows (nearSilent.former .one).upstream = [upAt 200000] ∧
      GoesSilent [upAt 200000] 31 nearSilent ⟨.one, .u, .right⟩ ∧ ¬ GoesSilent [upAt 200000] 31 nearSilent ⟨.one, .u, .left⟩ := by
  refine ⟨by decide, by decide, ?_, ?_⟩ <;> unfold GoesSilent <;> decide
/-- One half missing takes the count of 31 to 32 and latches "channel silent"; the straddle entry counts none (R68, R69). -/
theorem test_miss_count_reaches_silent :
    ((upstreamExpiry .one nearSilent).former .one).miss = ⟨31, 32, 0, 0⟩ ∧
      hasAny ((upstreamExpiry .one nearSilent).sitePort .b).details Detail.channelSilent.mask = true := by decide
/-- The expired entry was the last one older than a DEFERRED vehicle's reference instant. -/
theorem witness_expiry_deferred :
    let s := aged.withBuilder .one { Builder.start .open with ctx := { closing with state := .deferred, ref := 914285 } }
    (s.ctx .one).state = .deferred ∧ (s.former .one).upstream.any (isExpired s .one) = true ∧
      ∀ e ∈ (s.former .one).upstream, isExpired s .one e = false → ¬ 0 < fineSpan (s.ctx .one).ref e.instant := by decide

/-- Lane 1 of that list, with a loop vehicle of one axle in DEFERRED. -/
def deferring : State := aged.withBuilder .one { Builder.start .open with ctx :=
  { closing with state := .deferred, ref := 914285, axles := [⟨truckAxle 914000 2500 3000 3000, 0⟩] } }
/-- A loop vehicle in DEFERRED takes the expired entry's axle, then no older entry remains: it is sealed as a vehicle of two axles. -/
theorem witness_deferral_seals :
    let s := deferring
    let kept := (s.former .one).upstream.filter fun e => !isExpired s .one e
    let u := (s.withUpstream .one kept).arrivals .one (((s.former .one).upstream.filter (isExpired s .one)).map (unpairedAxle s))
    (u.ctx .one).state = .deferred ∧ (∀ e ∈ kept, ¬ 0 < fineSpan (u.ctx .one).ref e.instant) ∧ (u.ctx .one).cont = false ∧
      (u.ctx .one).axles.length = 2 ∧ u.vehicleNumber < 4294967295 ∧ u.rst.queue.length < 4 := by decide
theorem test_deferral_seals :
    (upstreamExpiry .one deferring).rst.queue.map (fun r => (r.number, r.lane, r.axles.length)) = [(1, .one, 2)] := by decide

/-! ### Witnesses: vehicle builders -/

theorem witness_loop_present :
    let s := laneAs fun b => { b with pend := 4 }
    (s.builder .one).pend = 4 ∧ (s.builder .one).loopFault = false ∧ (s.builder .one).present = false ∧
      (s.builder .one).mode = .open ∧ (s.ctx .one).state = .idle := by decide
theorem witness_loop_absent :
    let s := laneAs fun b => { b with pend := 4, present := true, ctx := { closing with state := .open } }
    (s.builder .one).pend = 4 ∧ (s.builder .one).loopFault = false ∧ (s.builder .one).present = true ∧
      (s.ctx .one).state = .open := by decide
/-- The loop gone present again under a vehicle in CLOSING or DEFERRED, and on a CLOSED lane; a trigger fires at the openings of ON_OPEN. -/
theorem witness_loop_again :
    let s := laneAs fun b => { b with pend := 4, ctx := closing }
    let d := laneAs fun b => { b with pend := 4, ctx := { closing with state := .deferred, timer := none } }
    let c := ready.withBuilder .one { Builder.start .closed with pend := 4 }
    let k := readySet fun cfg => cfg.onLane .one fun x => { x with triggerMode := .onOpen, triggerWidth := 20 }
    (s.builder .one).pend = 4 ∧ (s.builder .one).present = false ∧ (s.builder .one).loopFault = false ∧ (s.builder .one).mode = .open ∧
      (s.ctx .one).state = .closing ∧ (d.ctx .one).state = .deferred ∧ (c.builder .one).pend = 4 ∧ (c.builder .one).mode = .closed ∧
      (c.ctx .one).state = .idle ∧ openingPulse k .one = some ⟨0, 160⟩ := by
  refine ⟨by decide, by decide, by decide, by decide, by decide, by decide, by decide, by decide, by decide, ?_⟩
  unfold openingPulse; decide
/-- The way out of LOOP_FAULT: the change to absent under a vehicle that goes on (R92). -/
theorem witness_loop_fault_left :
    let s := laneAs fun b => { b with pend := 4, present := true, loopFault := true, ctx := { closing with loopKind := false } }
    (s.builder .one).pend = 4 ∧ (s.builder .one).present = true ∧ (s.builder .one).loopFault = true ∧ (s.ctx .one).state = .closing := by
  decide
theorem witness_loop_fault :
    let s := laneAs fun b => { b with present := true, presentCount := 960000, ctx := { closing with state := .open } }
    (s.builder .one).present = true ∧ (s.builder .one).loopFault = false ∧ (s.builder .one).presentCount = 960000 ∧
      (s.ctx .one).state = .open := by decide
theorem witness_trigger_end :
    ((laneAs fun b => { b with pulse := some ⟨160, 160⟩ }).builder .one).pulse = some ⟨160, 160⟩ ∧
      (⟨160, 160⟩ : Timer).limit ≤ (⟨160, 160⟩ : Timer).count := by decide
/-- A vehicle whose close timer has run out. -/
def expired : State := laneAs fun b => { b with ctx := closing }
theorem closes_now {s : State} {l : Lane} (k : Timer) (h : (s.ctx l).state = .closing ∧ (s.ctx l).timer = some k ∧ k.limit ≤ k.count) :
    ClosesNow s l (if (s.ctx l).loopKind then (s.ctx l).ref else fineOfScan s.sck.present) :=
  ⟨h.1, ⟨k, h.2.1, h.2.2⟩, rfl⟩
theorem witness_close :
    ClosesNow expired .one 1600 ∧ NoneOlder expired .one 1600 ∧
      ¬ ((expired.ctx .one).cont = true ∧ (expired.ctx .one).axles = []) ∧ expired.vehicleNumber < 4294967295 ∧
      expired.rst.queue.length < 4 :=
  ⟨closes_now ⟨12000, 12000⟩ (by decide), by unfold NoneOlder; decide, by decide, by decide, by decide⟩
/-- A loop-less vehicle's reference instant is the strobe's (R98). -/
theorem witness_close_loopless :
    ClosesNow (laneAs fun b => { b with ctx := { closing with loopKind := false } }) .one 0 := closes_now ⟨12000, 12000⟩ (by decide)
theorem witness_close_deferred :
    ClosesNow (expired.withUpstream .one [oneTrackOf (half ⟨.one, .u, .left⟩)]) .one 1600 ∧
      ¬ NoneOlder (expired.withUpstream .one [oneTrackOf (half ⟨.one, .u, .left⟩)]) .one 1600 :=
  ⟨closes_now ⟨12000, 12000⟩ (by decide), by unfold NoneOlder; decide⟩
theorem witness_close_dropped :
    let s := laneAs fun b => { b with ctx := { closing with cont := true, axles := [] } }
    ClosesNow s .one 1600 ∧ NoneOlder s .one 1600 ∧ (s.ctx .one).cont = true ∧ (s.ctx .one).axles = [] :=
  ⟨closes_now ⟨12000, 12000⟩ (by decide), by unfold NoneOlder; decide, by decide, by decide⟩
theorem witness_close_last :
    ClosesNow (expired.withVehicleNumber 4294967295) .one 1600 ∧ NoneOlder (expired.withVehicleNumber 4294967295) .one 1600 ∧
      (expired.withVehicleNumber 4294967295).vehicleNumber = 4294967295 :=
  ⟨closes_now ⟨12000, 12000⟩ (by decide), by unfold NoneOlder; decide, by decide⟩

/-- A two-axle reference vehicle of class 1 on lane 1, in a site that tracks drift there, with a run on the lane and what its window
holds. -/
def reference (mode : DriftMode) (run : RunState) (window : List Nat) (target : Nat) : State :=
  let cfg : Settings → Settings := fun x => { x with
    site := { x.site with classRuleCount := 1, autoDrift := true }
    rules := ⟨1, 2, [⟨0, 1000⟩], none, none, ⟨0, 0, 0, 0, 0⟩⟩ :: x.rules.drop 1
    lane := x.lane.set .one { x.lane.get .one with driftMode := mode, driftTarget := target } }
  let axle (k : Instant) : Axle := { truckAxle k 2500 6100 6100 with wU := 12200, wD := 12200 }
  let s := (readySet cfg).withBuilder .one { Builder.start .open with ctx := { closing with axles := [⟨axle 100, 0⟩, ⟨axle 9000, 200⟩] } }
  ((s.withRru { s.rru with state := run, owner := some .a, lane := some .one, loads := [12000, 12000] }).withTracker .one
    { DriftTracker.start with window := window }).withPtm
      { s.ptm with lane := s.ptm.lane.set .one ⟨300, .primary, 0, false, false, false⟩ }
/-- What sealing makes of it. -/
def judged (s : State) : Record := sealRecord s .one (s.ctx .one) 0 s.vehicleNumber
theorem witness_announced :
    let s := reference .auto .idle [] 12200
    ClosesNow s .one 1600 ∧ NoneOlder s .one 1600 ∧ ¬ ((s.ctx .one).cont = true ∧ (s.ctx .one).axles = []) ∧
      s.vehicleNumber < 4294967295 :=
  ⟨closes_now ⟨12000, 12000⟩ (by decide), by unfold NoneOlder; decide, by decide, by decide⟩
/-- It is admitted to the window of a lane without a run (R121). -/
theorem witness_admitted :
    let s := reference .auto .idle [] 12000
    let r := judged s
    (s.laneSet .one).driftMode ≠ .off ∧ (s.tracker .one).app = none ∧ s.rru.state = .idle ∧ r.cls = (s.laneSet .one).refClass ∧
      r.verdict = .clear ∧ hasAny r.flags 0x01FFFF = false ∧ r.speed = some 2500 ∧ (s.laneSet .one).refGrossMin ≤ r.gross ∧
      r.source = .primary := by decide
/-- The three ends of its evaluation: equal to the factor, applied by AUTO, or held where AUTO is not in force (R124). -/
theorem witness_evaluated :
    (evaluate (List.replicate 63 6050 ++ [6050]) 4096 6050).limited = 4096 ∧
      (evaluate (List.replicate 63 6050 ++ [6050]) 4096 6200).limited ≠ 4096 ∧
      ((reference .auto .idle [] 6200).laneSet .one).driftMode = .auto ∧ (reference .auto .idle [] 6200).site.autoDrift = true ∧
      ((reference .propose .idle [] 6200).laneSet .one).driftMode ≠ .auto ∧ (reference .auto .idle [] 1).sst.active.drift.get .one = 4096 ∧
      63 ≤ ((reference .auto .idle (List.replicate 63 6050) 1).tracker .one).window.length := by decide
/-- In a run on the lane it is a candidate (R133). -/
theorem witness_candidate :
    let s := reference .off .armed [] 6000
    s.rru.state = .armed ∧ s.rru.lane = some .one ∧ (s.ctx .one).axles.length = s.rru.loads.length ∧
      hasAny (judged s).flags 0x01FFFF = false ∧
      (∀ h ∈ (s.ctx .one).axles, 0 < h.axle.left + h.axle.right ∧ 0 < h.axle.wU ∧ 0 < h.axle.wD) ∧
      (reference .off .full [] 6000).rru.state ≠ .armed := by decide
theorem witness_queue_full :
    4 ≤ (expired.withRst { expired.rst with queue := List.replicate 4 truckRecord }).rst.queue.length := by decide

/-- A lone expired U entry, and the axle it hands on (R55, R57). -/
theorem witness_axle_handed :
    let e := oneTrackOf { half ⟨.one, .u, .left⟩ with centroid := 914284 }
    let s := aged.withUpstream .one [e]
    (s.former .one).upstream = [e] ∧ e.lane = .one ∧ (s.ctx .one).state ≠ .deferred ∧
      ((s.former .one).limit : Int) < fineSpan (fineOfScan s.sck.present) e.instant := by decide
/-- Lane 1 with a vehicle of n axles, the newest at 100. -/
def holding (n : Nat) (f : Context → Context) : State :=
  laneAs fun b => { b with ctx := f { closing with axles := List.replicate n ⟨truckAxle 100 2500 3000 3000, 0⟩ } }
/-- An axle that arrives at an instant, of a generation. -/
def arriving (k : Instant) (g : Word32) : Axle := { truckAxle k 2500 3000 3000 with generation := g }
/-- Of the context's generation: into an idle lane, as the first axle, near the newest one, as a thirteenth, and far from it, under
a loop and not (R97, R99, R100). -/
theorem witness_axle_same :
    (holding 0 fun _ => .idle).generation = 0 ∧ ((holding 0 fun _ => .idle).ctx .one).state = .idle ∧
      ((holding 1 id).ctx .one).stamp = 0 ∧ ((holding 0 id).ctx .one).axles = [] ∧ ((holding 0 id).ctx .one).state ≠ .idle ∧
      ((holding 12 id).ctx .one).axles.length = 12 ∧ (holding 12 id).site.splitSpacing = 1200 ∧
      axleSpacing (truckAxle 100 2500 3000 3000) (arriving 9000 0) ≤ 1200 ∧
      1200 < axleSpacing (truckAxle 100 2500 3000 3000) (arriving 90000 0) ∧
      ((holding 1 fun c => { c with state := .open, timer := none }).ctx .one).state = .open ∧ (holding 1 id).vehicleNumber + 2 ≤ 4294967295 := by
  decide
/-- R105's formula worked by hand: a span of 18,432 sixteenths is 360 cm at 2,500 cm/s and 324 cm at 2,250, the mean of 2,500 and 2,000;
an instant that is no later gives 0, a span of 50 s at 2,500 cm/s the cap, and no speed at all 0. -/
theorem test_axle_spacing :
    let at' (k : Instant) (v : Option Nat) : Axle := { truckAxle k 0 0 0 with speed := v }
    axleSpacing (at' 100 (some 2500)) (at' 18532 (some 2000)) = 324 ∧ axleSpacing (at' 100 (some 2500)) (at' 18532 none) = 360 ∧
      axleSpacing (at' 100 none) (at' 18532 (some 2500)) = 360 ∧ axleSpacing (at' 100 none) (at' 18532 none) = 0 ∧
      axleSpacing (at' 100 (some 2500)) (at' 100 (some 2500)) = 0 ∧
      axleSpacing (at' 100 (some 2500)) (at' 6400100 (some 2500)) = 65535 := by decide
/-- Of a newer generation, on a lane not affected and on one that was, and of an older one (R103). -/
theorem witness_axle_other :
    0 < ((arriving 9000 1).generation - (closing).stamp).toInt ∧ (holding 1 id).sst.riseLanes.get .one = false ∧
      (∀ h ∈ ((holding 1 id).ctx .one).axles, hasAny h.axle.flags AFlag.straddle = false) ∧
      ((holding 1 id).withSst { (holding 1 id).sst with riseLanes := ⟨true, false, false⟩ }).sst.riseLanes.get .one = true ∧
      ((arriving 9000 0xFFFFFFFF).generation - (closing).stamp).toInt ≤ 0 ∧ (arriving 9000 0xFFFFFFFF).generation ≠ (closing).stamp ∧
      ContextOk ((holding 1 id).ctx .one) := by
  refine ⟨by decide, by decide, by decide, by decide, by decide, by decide, ?_⟩; unfold ContextOk; decide

/-- With a number and a place in the queue for both vehicles. -/
theorem witness_axle_sealed :
    (holding 12 id).vehicleNumber + 1 < 4294967295 ∧ (holding 12 id).rst.queue.length + 1 < 4 ∧ (holding 12 id).rst.queue = [] := by decide
/-- A thirteenth axle seals the twelve TRUNCATED (R100); one of an older generation seals the vehicle, then itself, both with
SETTINGS_CHANGED (R103). -/
theorem test_axle_seals :
    (axleArrival .one (arriving 9000 0) (holding 12 id)).rst.queue.map
      (fun r => (r.axles.length, hasAny r.flags VFlag.truncated)) = [(12, true)] ∧
    (axleArrival .one (arriving 9000 0xFFFFFFFF) (holding 1 id)).rst.queue.map
      (fun r => (r.axles.length, r.generation, hasAny r.flags VFlag.settingsChanged)) = [(1, 0, true), (1, 0xFFFFFFFF, true)] := by decide

/-- Every request below is taken directly at port A by its frame to unit address 1. -/
theorem taken_direct {s : State} {payload : List Byte}
    (h : ((s.sitePort .a).takes && decide (payload.length ≤ 1024) && decide (s.addressee .a 1 = .direct)) = true) :
    TakenDirect s .a 1 payload := by
  simp only [Bool.and_eq_true, decide_eq_true_eq] at h
  exact ⟨h.1.1, h.1.2, h.2⟩

theorem witness_lane_mode :
    TakenDirect expired .a 1 [7, 0] ∧ TakenDirect expired .a 1 [1, 1] ∧ (expired.may .a).lane = true ∧
      lanesOf 7 = [.one, .two, .three] ∧ lanesOf 1 ≠ [] ∧ (expired.builder .two).mode = .closed :=
  ⟨taken_direct (by decide), taken_direct (by decide), by decide, by decide, by decide, by decide⟩
/-- Lane 1 closed with a vehicle on it and a run; lane 2 opened with its loop present, and lane 3 with it in LOOP_FAULT. -/
theorem witness_lane_closed :
    let s := (((runAs id).withBuilder .one { Builder.start .open with ctx := closing }).withBuilder .two
      { Builder.start .closed with present := true }).withBuilder .three { Builder.start .closed with present := true, loopFault := true }
    TakenDirect s .a 1 [1, 1] ∧ TakenDirect s .a 1 [6, 0] ∧ (s.may .a).lane = true ∧ lanesOf 1 = [.one] ∧ lanesOf 6 = [.two, .three] ∧
      (s.builder .one).mode = .open ∧ (s.ctx .one).state ≠ .idle ∧ (s.ctx .one).cont = false ∧ s.rst.queue.length ≤ 1 ∧
      s.vehicleNumber + 3 ≤ 4294967295 ∧ s.runActive .one = true ∧ s.runActive .two = false ∧ (s.builder .two).mode = .closed ∧
      (s.builder .two).present = true ∧ (s.builder .two).loopFault = false ∧ (s.builder .three).loopFault = true :=
  ⟨taken_direct (by decide), taken_direct (by decide), by decide, by decide, by decide, by decide, by decide, by decide, by decide,
    by decide, by decide, by decide, by decide, by decide, by decide, by decide⟩
/-- A direct one without a lane, and with mode 2 (R93, section 10.2). -/
theorem witness_lane_mode_invalid :
    TakenDirect ready .a 1 [0, 1] ∧ lanesOf 0 = [] ∧ TakenDirect ready .a 1 [1, 2] ∧ 1 < (2 : Byte).toNat ∧ (ready.may .a).lane = true :=
  ⟨taken_direct (by decide), by decide, taken_direct (by decide), by decide, by decide⟩

/-- Group and broadcast, the checks of which pass, or fail by length, privilege, lanes and mode. -/
def grouped : State := readySet fun cfg => { cfg with
  site := { cfg.site with groupAddress := 16, groupMask := 48 }, port := .all { PortSettings.default with groupEnable := true } }
theorem witness_lane_mode_to_many :
    (grouped.sitePort .a).takes = true ∧ grouped.addressee .a 63 = .broadcast ∧ grouped.addressee .a 16 = .group ∧
      (grouped.may .a).lane = true ∧ lanesOf 5 = [.one, .three] ∧ (1 : Byte).toNat ≤ 1 ∧ (noRights.may .a).lane = false ∧
      lanesOf 8 = [] ∧ 1 < (2 : Byte).toNat ∧ (noRights.sitePort .a).takes = true ∧ noRights.addressee .a 63 = .broadcast := by decide

/-! ### Witnesses: temperature monitor -/

/-- Probe 0 worked by a function. -/
def probeAs (f : ProbeState → ProbeState) : State :=
  ready.withPtm { ready.ptm with probe := ready.ptm.probe.set .p0 (f .start) }
theorem witness_reading :
    let s := probeAs fun q => { q with count := 2000, sum := 60000000 }
    let g := probeAs fun q => { q with count := 2000, sum := 4000000, state := .good, f := some 300 }
    (s.ptm.probe.get .p0).count = 2000 ∧ (s.ptm.probe.get .p0).state = .none ∧ (s.ptm.probe.get .p0).f = none ∧
      (g.ptm.probe.get .p0).count = 2000 ∧ (g.ptm.probe.get .p0).state = .good ∧
      classify ProbeSettings.default ((2 * 4000000 + 2000) / 4000) = .good := by decide
/-- A good value of 336 on the default curve against f: seeding, near it, a spike, and the third spike in turn (R78). -/
theorem witness_good_values :
    let v := max (-400) (min 800 (readCurve ProbeSettings.default.curve 37440))
    v = 336 ∧ (v - 320).natAbs ≤ 20 ∧ 20 < (v - 300).natAbs ∧ ready.site.spikeLimit = 20 ∧
      classify ProbeSettings.default 37440 = .good ∧ classify ProbeSettings.default 1999 = .badOpen ∧
      classify ProbeSettings.default 63001 = .badShort := by decide
theorem witness_stale :
    ∀ h ∈ [ProbeHealth.good, .open, .short], ((probeAs fun q => { q with stale := some 24000, state := h }).ptm.probe.get .p0).stale =
      some 24000 ∧ ((probeAs fun q => { q with stale := some 24000, state := h }).ptm.probe.get .p0).state = h := by decide
theorem witness_lost :
    let s := ready.withPtm { ready.ptm with lane := ready.ptm.lane.set .one ⟨300, .held, 7199999, true, false, true⟩ }
    (s.laneTemp .one).source = .held ∧ (s.laneTemp .one).lostDue = true := by decide

/-! ### Witnesses: drift -/

theorem witness_factor : FactorOk 3686 ∧ FactorOk 4096 ∧ FactorOk 4506 := by unfold FactorOk; decide
/-- A window of the loads 1,000 to 1,063 with its 8 lowest and its 8 highest set aside. -/
theorem witness_window :
    let window := (List.range 64).map (1000 + ·)
    let low := window.take 8
    let middle := (window.drop 8).take 48
    let high := window.drop 56
    window.Perm (low ++ middle ++ high) ∧ low.length = 8 ∧ middle.length = 48 ∧ high.length = 8 ∧
      (∀ x ∈ low, ∀ y ∈ middle, x ≤ y) ∧ ∀ y ∈ middle, ∀ z ∈ high, y ≤ z :=
  ⟨.of_eq (by decide), by decide, by decide, by decide, by decide, by decide⟩
/-- Lane 2's tracker worked by a function, port A holding the token. -/
def driftAs (f : DriftTracker → DriftTracker) : State := held.withTracker .two (f .start)
theorem witness_drift_taken :
    let s := driftAs fun t => { t with app := some ⟨.proposal, 4137⟩ }
    (s.tracker .two).app = some ⟨.proposal, 4137⟩ ∧ (s.ctx .two).state = .idle ∧ s.sst.prog = .idle ∧ s.runActive .two = false := by
  decide
/-- A drift application of lane 2 meets a vehicle of lane 1 that holds a straddle axle, and one of lane 3 that holds none (R103). -/
theorem witness_drift_rise :
    let straddling : Context := { closing with axles := [⟨{ truckAxle 100 2500 3000 3000 with flags := AFlag.straddle }, 0⟩] }
    let s := ((driftAs fun t => { t with app := some ⟨.proposal, 4137⟩ }).withBuilder .one { Builder.start .open with ctx := straddling }).withBuilder
      .three { Builder.start .open with ctx := closing }
    (s.tracker .two).app = some ⟨.proposal, 4137⟩ ∧ (s.ctx .two).state = .idle ∧ s.sst.prog = .idle ∧ s.runActive .two = false ∧
      (∃ h ∈ (s.ctx .one).axles, hasAny h.axle.flags AFlag.straddle = true) ∧ (s.ctx .one).state ≠ .idle ∧ (s.ctx .one).cont = false ∧
      (∀ h ∈ (s.ctx .three).axles, hasAny h.axle.flags AFlag.straddle = false) ∧ (s.ctx .three).state ≠ .idle ∧
      s.rst.queue.length ≤ 1 ∧ s.vehicleNumber + 3 ≤ 4294967295 ∧ (s.laneSet .one).triggerMode = .off := by decide
theorem witness_drift_requests :
    TakenDirect (driftAs fun t => { t with proposal := some 4137 }) .a 1 [2] ∧
      (driftAs fun t => { t with proposal := some 4137 }).holdsToken .a = true ∧
      ((driftAs fun t => { t with proposal := some 4137 }).tracker .two).proposal = some 4137 ∧
      ((driftAs fun t => { t with proposal := some 4137 }).tracker .two).resetPending = false :=
  ⟨taken_direct (by decide), by decide, by decide, by decide⟩
theorem witness_reset_pending :
    TakenDirect (driftAs fun t => { t with app := some ⟨.reset, 4096⟩ }) .a 1 [2] ∧
      ((driftAs fun t => { t with app := some ⟨.reset, 4096⟩ }).tracker .two).app = some ⟨.reset, 4096⟩ :=
  ⟨taken_direct (by decide), by decide⟩
theorem witness_drift_checks :
    TakenDirect ready .a 1 [0] ∧ TakenDirect ready .a 1 [4] ∧ TakenDirect ready .a 1 [1] ∧ TakenDirect held .a 1 [3] ∧
      ready.holdsToken .a = false ∧ held.holdsToken .a = true ∧ (held.tracker .three).proposal = none :=
  ⟨taken_direct (by decide), taken_direct (by decide), taken_direct (by decide), taken_direct (by decide), by decide, by decide,
    by decide⟩

/-! ### Witnesses: reference run -/

/-- The token held, lane 1 OPEN. -/
def openHeld : State := held.withBuilder .one (.start .open)
theorem witness_start_run :
    TakenDirect openHeld .a 1 [1, 2, 1, 244, 117, 48] ∧ openHeld.holdsToken .a = true ∧ openHeld.rru.state = .idle ∧
      (openHeld.builder .one).mode = .open ∧
      (openHeld.laneSet .one).speedU.map Point.x = (openHeld.laneSet .one).speedD.map Point.x ∧
      [500, 30000].flatMap (natBytes 2) = [1, 244, 117, 48] ∧ ∀ w ∈ [500, 30000], 500 ≤ w ∧ w ≤ 30000 :=
  ⟨taken_direct (by decide), by decide, by decide, by decide, by decide, by decide, by decide⟩
/-- A speed point takes its y from each curve (R137). -/
theorem test_start_points :
    (RunUnit.started .a .one [6500, 9800] [⟨1389, 4180⟩] [⟨1389, 4050⟩]).points = [⟨1389, 4180, 4050, 0, 0, 0⟩] := by decide
/-- START RUN with a run in ARMED; for lane 0 or 4, for 1 or 13 axles, with loads of 499 and 30,001 kg; with lane 2 CLOSED, and with
curves not alike (R132). -/
theorem witness_start_run_refused :
    let loads (n : Nat) : List Byte := (List.replicate n 6000).flatMap (natBytes 2)
    let unlike := heldWith .factory |>.withSst { held.sst with active := { held.sst.active with
      settings := Settings.factory.onLane .three fun x => { x with speedD := [⟨2777, 4096⟩] } } }
    (runAs id).rru.state = .armed ∧ openHeld.rru.state = .idle ∧
      (∀ payload ∈ [[0, 2] ++ loads 2, [4, 2] ++ loads 2, [1, 1] ++ loads 1, [1, 13] ++ loads 13, [1, 2, 1, 243, 23, 112],
          [1, 2, 23, 112, 117, 49], [2, 2] ++ loads 2, [3, 2] ++ loads 2],
        TakenDirect openHeld .a 1 payload ∧ 2 ≤ payload.length ∧ payload.length = 2 + 2 * field payload 1 1) ∧
      (openHeld.builder .two).mode = .closed ∧ field [1, 2, 1, 243, 23, 112] 2 2 = 499 ∧ field [1, 2, 23, 112, 117, 49] 4 2 = 30001 ∧
      TakenDirect unlike .a 1 ([3, 2] ++ loads 2) ∧ unlike.holdsToken .a = true ∧ unlike.rru.state = .idle ∧
      (unlike.laneSet .three).speedU.map Point.x ≠ (unlike.laneSet .three).speedD.map Point.x := by
  refine ⟨by decide, by decide, fun payload h => ?_, by decide, by decide, by decide, taken_direct (by decide), by decide, by decide, by decide⟩
  simp only [List.mem_cons, List.not_mem_nil, or_false] at h
  rcases h with rfl | rfl | rfl | rfl | rfl | rfl | rfl | rfl <;> exact ⟨taken_direct (by decide), by decide, by decide⟩
/-- A pass pending, with the given passes accepted before it. -/
def pendingRun (n : Nat) : State :=
  runAs fun u => { u with state := .pending, pass := some pass, pendTimer := some 9, armed := none, passes := List.replicate n taken }
theorem witness_pass :
    TakenDirect (pendingRun 15) .a 1 [0, 0, 0, 77] ∧ (pendingRun 15).holdsToken .a = true ∧ (pendingRun 15).rru.state = .pending ∧
      (pendingRun 15).rru.pass = some pass ∧ pass.number = field [0, 0, 0, 77] 0 4 ∧ (pendingRun 14).rru.passes.length + 1 < 16 :=
  ⟨taken_direct (by decide), by decide, by decide, by decide, by decide, by decide⟩
/-- A pass at 1,450 among two speed points, and one half way between them, which is the lower-numbered point's (R134). -/
theorem witness_nearest :
    (pendingRun 15).rru.points ≠ [] ∧ NearestPoint 1450 [⟨1389, 0, 0, 0, 0, 0⟩, ⟨2778, 0, 0, 0, 0, 0⟩] 0 ∧
      NearestPoint 1500 [⟨1000, 0, 0, 0, 0, 0⟩, ⟨2000, 0, 0, 0, 0, 0⟩] 0 ∧
      ¬ NearestPoint 1500 [⟨1000, 0, 0, 0, 0, 0⟩, ⟨2000, 0, 0, 0, 0, 0⟩] 1 := by
  refine ⟨by decide, ⟨_, rfl, ?_⟩, ⟨_, rfl, ?_⟩, ?_⟩
  · rintro (_ | _ | j) y h <;> simp at h <;> subst h <;> decide
  · rintro (_ | _ | j) y h <;> simp at h <;> subst h <;> decide
  · rintro ⟨x, hx, h⟩; have := (h 0 _ rfl).2 (by decide); simp at hx; subst hx; revert this; decide
/-- A pass of another number, and none pending (R134, R135); no run, and one without passes (R138, R139). -/
theorem witness_run_refused :
    TakenDirect (pendingRun 1) .a 1 [0, 0, 0, 78] ∧ pass.number ≠ field [0, 0, 0, 78] 0 4 ∧ (runAs id).rru.state ≠ .pending ∧
      TakenDirect (runAs id) .a 1 [0, 0, 0, 77] ∧ (runAs id).holdsToken .a = true ∧ TakenDirect (runAs id) .a 1 [] ∧
      (runAs id).rru.passes = [] ∧ TakenDirect held .a 1 [] ∧ held.holdsToken .a = true ∧ held.rru.state = .idle :=
  ⟨taken_direct (by decide), by decide, by decide, taken_direct (by decide), by decide, taken_direct (by decide), by decide,
    taken_direct (by decide), by decide, by decide⟩
theorem witness_run_ends :
    TakenDirect (pendingRun 1) .a 1 [] ∧ (pendingRun 1).sst.edit = some ⟨.a, 7, .factory⟩ ∧ (pendingRun 1).rru.state ≠ .idle ∧
      (pendingRun 1).rru.lane = some .one ∧ (pendingRun 1).rru.passes ≠ [] :=
  ⟨taken_direct (by decide), by decide, by decide, by decide, by decide⟩
theorem witness_run_timers :
    (runAs fun u => { u with state := .pending, pass := some pass, pendTimer := some 2400000 }).rru.pendTimer = some 2400000 ∧
      (runAs fun u => { u with armed := some 14400000 }).rru.armed = some 14400000 ∧
      (runAs fun u => { u with armed := some 14400000 }).rru.state = .armed := by decide

/-! ### Witnesses: record store -/

theorem only_waiter {s : State} {p : Port}
    (h : (decide (s.sea.engine = .free) && s.rst.queue.isEmpty && !s.sst.prog.stepReady &&
      Port.all.all fun q => decide (q = p) || !(s.sitePort q).waits) = true) : OnlyWaiter s p := by
  simp only [Bool.and_eq_true, decide_eq_true_eq, List.isEmpty_iff, Bool.not_eq_true', Port.all, List.all_cons, List.all_nil,
    Bool.or_eq_true, and_true] at h
  obtain ⟨⟨⟨a, b⟩, c⟩, d⟩ := h
  refine ⟨a, b, c, fun q hq => ?_⟩
  cases q
  · exact d.1.resolve_left hq
  · exact d.2.1.resolve_left hq
  · exact d.2.2.resolve_left hq

/-- One vehicle in the queue of a store that holds one record. -/
def queued : State :=
  ready.withRst { RecordStore.start with
    records := [{ smallRecord 5 with axles := List.replicate 12 ⟨0, 0, 0, 1, 0⟩ }], next := 6, queue := [truckRecord] }
theorem witness_commit_record :
    queued.rst.queue = [truckRecord] ∧ queued.grantee = some .recordCommit ∧ recordBytes queued.rst.records ≤ 32768 ∧
      truckRecord.size ≤ 136 := by decide
theorem witness_overtaken :
    stored.rst.cursor.get .a ≤ (smallRecord 5).number ∧ (stored.rst.filter.get .a).accepts (smallRecord 5) = true ∧
      ¬ stored.rst.cursor.get .a ≤ (smallRecord 4).number := by decide
/-- Three members and two ports wait: the port group is next, and port B of it; and with nothing waiting no member is (R154, R155). -/
theorem witness_arbiter :
    let s := ((((queued.withPort .b { queued.sitePort .b with state := .execute, rx := [1, 2, 0, 0] }).withPort .c
      { queued.sitePort .c with state := .execute, rx := [1, 2, 0, 0] }).withSst { queued.sst with prog := .ready 1 .factory }).withSea
        ⟨.settingsEngine, .a, .free⟩)
    NextMember s .portGroup ∧ NextPort s .b ∧ NextMember (s.withSea ⟨.portGroup, .a, .free⟩) .recordCommit ∧
      NextMember (s.withSea ⟨.recordCommit, .a, .free⟩) .settingsEngine ∧ ¬ NextMember ready .recordCommit ∧
      ¬ NextMember ready .settingsEngine ∧ ¬ NextMember ready .portGroup := by
  refine ⟨⟨by decide, ⟨.b, by decide⟩, fun k _ => by cases k <;> decide⟩,
    ⟨by decide, fun q hq => by cases q <;> revert hq <;> decide⟩,
    ⟨by decide, by unfold MemberWaits; decide, fun k _ => by cases k <;> decide⟩,
    ⟨by decide, ⟨1, .factory, by decide⟩, fun k _ => by cases k <;> decide⟩, fun h => h.2.1 (by decide), ?_, ?_⟩
  · rintro ⟨-, ⟨n, m, h⟩, -⟩; revert h; simp [ready, State.reset, State.withPorts, SettingsStore.startDefaults]
  · rintro ⟨-, ⟨p, h⟩, -⟩; revert h; cases p <;> decide
theorem witness_release :
    TakenDirect stored .a 1 [0, 0, 0, 4] ∧ TakenDirect stored .a 1 [0, 0, 0, 7] ∧ TakenDirect stored .a 1 [0, 0, 0, 8] ∧
      (stored.may .a).read = true ∧ OnlyWaiter stored .a ∧ stored.rst.next = 8 ∧ stored.rst.cursor.get .a = 5 :=
  ⟨taken_direct (by decide), taken_direct (by decide), taken_direct (by decide), by decide, only_waiter (by decide), by decide,
    by decide⟩
theorem witness_seek :
    TakenDirect stored .a 1 [0, 0, 0, 0, 0] ∧ TakenDirect stored .a 1 [1, 0, 0, 0, 0] ∧ TakenDirect stored .a 1 [2, 0, 0, 0, 5] ∧
      TakenDirect stored .a 1 [2, 0, 0, 0, 8] ∧ TakenDirect stored .a 1 [2, 0, 0, 0, 4] ∧ TakenDirect stored .a 1 [2, 0, 0, 0, 9] ∧
      (stored.may .a).read = true ∧ OnlyWaiter stored .a :=
  ⟨taken_direct (by decide), taken_direct (by decide), taken_direct (by decide), taken_direct (by decide), taken_direct (by decide),
    taken_direct (by decide), by decide, only_waiter (by decide)⟩
/-- A mode 3, and max bytes of 39 and 1,020 (R148). -/
theorem witness_out_of_range :
    TakenDirect stored .a 1 [3, 0, 0, 0, 5] ∧ 2 < (3 : Byte).toNat ∧ TakenDirect stored .a 1 [0, 39] ∧ field [0, 39] 0 2 < 40 ∧
      TakenDirect stored .a 1 [3, 252] ∧ 1019 < field [3, 252] 0 2 ∧ (stored.may .a).read = true :=
  ⟨taken_direct (by decide), by decide, taken_direct (by decide), by decide, taken_direct (by decide), by decide, by decide⟩
theorem witness_set_filter :
    TakenDirect stored .a 1 [1, 0, 0, 0, 1, 1] ∧ TakenDirect stored .a 1 [8, 0, 0, 0, 1, 1] ∧ (stored.may .a).read = true ∧
      (filterOf [1, 0, 0, 0, 1, 1]).hasEmpty = false ∧ (filterOf [8, 0, 0, 0, 1, 1]).hasEmpty = true ∧ OnlyWaiter stored .a :=
  ⟨taken_direct (by decide), taken_direct (by decide), by decide, by decide, by decide, only_waiter (by decide)⟩
theorem witness_read_records :
    TakenDirect stored .a 1 [0, 40] ∧ TakenDirect stored .a 1 [3, 251] ∧ field [0, 40] 0 2 = 40 ∧ field [3, 251] 0 2 = 1019 ∧
      (stored.may .a).read = true ∧ OnlyWaiter stored .a ∧ stored.rst.hasNew .a = true :=
  ⟨taken_direct (by decide), taken_direct (by decide), by decide, by decide, by decide, only_waiter (by decide), by decide⟩
/-- A record with axles is taken (R185). -/
theorem witness_read_axles :
    let s := (ready.withVehicleNumber 17408).withRst { RecordStore.start with records := [truckRecord], next := 17407 }
    TakenDirect s .a 1 [3, 251] ∧ OnlyWaiter s .a ∧ s.rst.hasNew .a = true ∧ truckRecord.axles[4]? = some ⟨4900, 4900, 130, 3, 0⟩ :=
  ⟨taken_direct (by decide), only_waiter (by decide), by decide, by decide⟩
theorem witness_read_status : TakenDirect ready .a 1 [] ∧ (ready.may .a).read = true ∧ OnlyWaiter ready .a :=
  ⟨taken_direct (by decide), by decide, only_waiter (by decide)⟩

/-! ### Witnesses: settings -/

/-- Working copies: alike, with lane 2's gain changed, and with T_off above T_on on channel 3. -/
def gainChanged : Settings := Settings.factory.onChannel ⟨.two, .u, .right⟩ fun x => { x with gain := 174 }
def badThreshold : Settings := Settings.factory.onChannel ⟨.one, .d, .right⟩ fun x => { x with tOff := 401 }
def delayChanged : Settings := Settings.factory.onSite fun x => { x with closeDelay := 1200 }
theorem witness_commit_invalid :
    TakenDirect (heldWith badThreshold) .a 1 [] ∧ OnlyWaiter (heldWith badThreshold) .a ∧ (heldWith badThreshold).sst.prog = .idle ∧
      firstFailure (crossChecks badThreshold) = some (34, 3) :=
  ⟨taken_direct (by decide), only_waiter (by decide), by decide, by decide⟩
theorem witness_commit_busy :
    let s := (heldWith badThreshold).withSst { (heldWith badThreshold).sst with prog := .writing 3 .factory }
    TakenDirect s .a 1 [] ∧ OnlyWaiter s .a ∧ s.sst.prog ≠ .idle :=
  ⟨taken_direct (by decide), only_waiter (by decide), by decide⟩
set_option maxRecDepth 8000 in
/-- A COMMIT waits at port A, whose token is gone. -/
theorem witness_commit_token_gone :
    let s := portAs fun q => { q with state := .execute, rx := buildFrame 1 17 [] }
    OnlyWaiter s .a ∧ (s.sitePort .a).state = .execute ∧ (s.sitePort .a).rx = buildFrame 1 17 [] ∧ s.holdsToken .a = false :=
  ⟨only_waiter (by decide), by decide, by decide, by decide⟩
theorem witness_commit_denied :
    firstFailure (crossChecks gainChanged) = none ∧ protectedDiffers (heldWith gainChanged).settings gainChanged = true := by decide
theorem witness_commit_same :
    TakenDirect held .a 1 [] ∧ OnlyWaiter held .a ∧ firstFailure (crossChecks .factory) = none ∧ held.settings = .factory :=
  ⟨taken_direct (by decide), only_waiter (by decide), by decide, by decide⟩
theorem witness_commit_applies :
    TakenDirect (heldWith gainChanged) .a 1 [] ∧ OnlyWaiter (heldWith gainChanged) .a ∧
      (heldWith gainChanged).sst.edit = some ⟨.a, 7, gainChanged⟩ ∧ gainChanged ≠ (heldWith gainChanged).settings ∧
      laneAffected (heldWith gainChanged).settings gainChanged .two = true :=
  ⟨taken_direct (by decide), only_waiter (by decide), by decide, by decide, by decide⟩
theorem witness_commit_operational :
    protectedDiffers .factory delayChanged = false ∧ delayChanged ≠ .factory ∧ firstFailure (crossChecks delayChanged) = none := by
  decide
/-- Working copies with one item changed for each block: coefficients, a threshold, a channel disabled, a probe, a probe map, a port's
rate and the link mode; each passes the cross-item checks and differs from the settings in use. -/
def retold : List Settings :=
  [Settings.factory.onLane .two fun x => { x with fir := ⟨0, 0, 192, 384, 640, 1600⟩ },
   Settings.factory.onChannel ⟨.two, .u, .right⟩ fun x => { x with tOn := 500 },
   Settings.factory.onChannel ⟨.two, .u, .right⟩ fun x => { x with enabled := false },
   Settings.factory.onProbe .p1 fun x => { x with openT := 2100 },
   Settings.factory.onLane .two fun x => { x with probeMap := ⟨.p3, .p0⟩ },
   Settings.factory.onPort .b fun x => { x with rate := .r57600 },
   Settings.factory.onSite fun x => { x with linkMode := .narrow }]
theorem witness_commit_blocks :
    (∀ w ∈ retold, firstFailure (crossChecks w) = none ∧ w ≠ .factory ∧ (heldWith w).sst.edit = some ⟨.a, 7, w⟩) ∧
      retold.map (protectedDiffers .factory) = [true, true, true, true, false, false, false] ∧
      ((heldWith .factory).sitePort .b).state = .listen ∧ ((heldWith .factory).sitePort .b).rate = .r115200 := by decide
/-- A commit whose link mode differs meets the link in ALIGNING and RUNNING, with empty formers and a vehicle on lane 1. -/
theorem witness_commit_link :
    let w := Settings.factory.onSite fun x => { x with linkMode := .narrow }
    let s := ((heldWith w).withBuilder .one { Builder.start .open with ctx := closing }).withSlr { Link.start with state := .running }
    TakenDirect s .a 1 [] ∧ OnlyWaiter s .a ∧ w.site.linkMode ≠ s.site.linkMode ∧ s.slr.state = .running ∧
      (s.withSlr { Link.start with state := .aligning, halfMarker := true }).slr.state = .aligning ∧ (s.former .one).upstream = [] ∧
      s.rst.queue.length + 3 ≤ 4 :=
  ⟨taken_direct (by decide), only_waiter (by decide), by decide, by decide, by decide, by decide, by decide⟩
/-- A protected change of lane 2 meets its own vehicle, a straddle axle on lane 1, an ordinary vehicle on lane 3, a run on lane 2 and a
pending application of each kind. -/
theorem witness_commit_rise :
    let straddling : Context := { closing with axles := [⟨{ truckAxle 100 2500 3000 3000 with flags := AFlag.straddle }, 0⟩] }
    let s := (((heldWith gainChanged).withBuilder .two { Builder.start .open with ctx := closing }).withBuilder .one
      { Builder.start .open with ctx := straddling }).withBuilder .three { Builder.start .open with ctx := closing }
    let r := (s.withRru { (runAs id).rru with lane := some .two }).withTracker .two { DriftTracker.start with app := some ⟨.reset, 4096⟩ }
    TakenDirect r .a 1 [] ∧ OnlyWaiter r .a ∧ protectedDiffers r.settings gainChanged = true ∧ laneAffected r.settings gainChanged .two = true ∧
      laneAffected r.settings gainChanged .one = false ∧ (∃ h ∈ (r.ctx .one).axles, hasAny h.axle.flags AFlag.straddle = true) ∧
      laneAffected r.settings gainChanged .three = false ∧ (∀ h ∈ (r.ctx .three).axles, hasAny h.axle.flags AFlag.straddle = false) ∧
      r.runActive .two = true ∧ gainChanged.site.linkMode = r.site.linkMode ∧ r.rst.queue.length ≤ 1 :=
  ⟨taken_direct (by decide), only_waiter (by decide), by decide, by decide, by decide, by decide, by decide, by decide, by decide,
    by decide, by decide⟩
/-- One failure of each cross-item check, as the table of section 9.3 names it: equal x, T_off above T_on, a tap sum of 2,047, a rule in
force with a window too many, and a probe map of one probe. -/
theorem test_check_fails :
    let onOne (f : LaneSettings → LaneSettings) : Settings := Settings.factory.onLane .one f
    let curve := onOne fun x => { x with speedD := [⟨100, 4096⟩, ⟨100, 4096⟩] }
    let taps := onOne fun x => { x with fir := ⟨0, 0, 0, 0, 0, 2047⟩ }
    let rule := { Settings.factory.onSite (fun x => { x with classRuleCount := 1 }) with
      rules := { ClassRule.unused with code := 1, axles := 2, windows := [⟨0, 9⟩, ⟨0, 9⟩] } :: List.replicate 31 .unused }
    let map := onOne fun x => { x with probeMap := ⟨.p1, .p1⟩ }
    (CheckFails curve 1 50 1 ∧ CheckFails badThreshold 2 34 3 ∧ CheckFails taps 3 32 1 ∧ CheckFails rule 4 86 1 ∧ CheckFails map 5 67 1) ∧
      [curve, badThreshold, taps, rule, map].map (fun cfg => firstFailure (crossChecks cfg)) =
        [some (50, 1), some (34, 3), some (32, 1), some (86, 1), some (67, 1)] := by
  refine ⟨⟨.inl ⟨rfl, .inl ⟨.one, .d, rfl, rfl, fun h => ?_⟩⟩, .inr (.inl ⟨rfl, rfl, ⟨.one, .d, .right⟩, rfl, by decide⟩),
    .inr (.inr (.inl ⟨rfl, rfl, .one, rfl, by decide⟩)), .inr (.inr (.inr (.inl ⟨rfl, rfl, 0, _, by decide, rfl, rfl, by decide⟩))),
    .inr (.inr (.inr (.inr ⟨rfl, rfl, .one, rfl, rfl⟩)))⟩, by decide⟩
  exact absurd (h 0 _ _ rfl rfl) (by decide)
/-- A probe belongs to the lanes whose map names it, old or new; a port's privileges are protected and belong to no lane (R178). -/
theorem test_protected_items :
    let probe := Settings.factory.onProbe .p3 fun x => { x with openT := 1999 }
    let rights := { Settings.factory with port := .all { PortSettings.default with privileges := ⟨true, true, true, true, false⟩ } }
    LaneItemChanged .factory probe .three ∧ affectedLanes .factory probe = ⟨false, false, true⟩ ∧
      ProtectedItemChanged .factory rights ∧ protectedDiffers .factory rights = true ∧ affectedLanes .factory rights = .all false :=
  ⟨.inr (.inr ⟨_, .p3, .inl rfl, .inl rfl, .inr (.inl (by decide))⟩), by decide, .inr (.inr (.inr ⟨.a, by decide⟩)), by decide, by decide⟩
/-- Only the gain's lane is affected (section 9.5). -/
theorem test_affected : affectedLanes .factory gainChanged = ⟨false, true, false⟩ := by decide
theorem witness_token :
    TakenDirect ready .a 1 [] ∧ ready.sst.edit = none ∧ (ready.may .a).edit = true ∧ TakenDirect held .a 1 [] ∧
      held.holdsToken .a = true ∧ (ready.withSst { ready.sst with edit := some ⟨.b, 960000, .factory⟩ }).sst.edit =
        some ⟨.b, 960000, .factory⟩ :=
  ⟨taken_direct (by decide), by decide, by decide, taken_direct (by decide), by decide, by decide⟩
theorem witness_write_setting :
    TakenDirect held .a 1 [0, 128, 0, 0, 0, 0, 62] ∧ writeSettingLength [0, 128, 0, 0, 0, 0, 62] = true ∧
      Item.ofId? 128 0 = some .unitAddress ∧ InRange [0, 0, 0, 62] .unitAddress ∧ ¬ InRange [0, 0, 0, 63] .unitAddress ∧
      Item.ofId? 135 0 = none ∧ writeSettingLength [0, 135, 0] = true :=
  ⟨taken_direct (by decide), by decide, by decide, by unfold InRange NumIn; decide, by unfold InRange NumIn; decide, by decide,
    by decide⟩
theorem witness_read_setting :
    TakenDirect held .a 1 [0, 128, 0, 0] ∧ TakenDirect held .a 1 [0, 128, 0, 1] ∧ (held.may .a).read = true ∧
      Item.ofId? (0 * 256 + 128) 0 = some .unitAddress ∧ Item.ofId? (0 * 256 + 255) 0 = none ∧ ready.holdsToken .a = false :=
  ⟨taken_direct (by decide), taken_direct (by decide), by decide, by decide, by decide, by decide⟩
theorem witness_read_back :
    Settings.factory.rules.length = 32 ∧ Item.ofId? 66 1 = some (.shortT .p1) ∧ valueLengthOk 66 [0, 0, 255, 255] = true ∧
      (writeItem [0, 0, 255, 255] .factory (.shortT .p1)).isSome = true := by decide
theorem witness_programming :
    let s := held.withSst { held.sst with prog := .ready 1 .factory }
    s.sst.prog = .ready 1 .factory ∧ s.grantee = some .settingsEngine ∧
      (held.withSst { held.sst with prog := .writing 16 .factory }).sst.prog = .writing 16 .factory := by decide

/-! ### Witnesses: ports -/

theorem witness_time :
    TakenDirect ready .a 1 [0, 0, 3, 232] ∧ TakenDirect ready .a 1 [0, 0, 3, 232, 0, 15, 66, 63] ∧ (ready.may .a).time = true ∧
      field [0, 0, 3, 232, 0, 15, 66, 63] 4 4 = 999999 ∧ field [0, 0, 3, 232, 0, 15, 66, 64] 4 4 = 1000000 ∧
      ready.sck.timeState = .unset :=
  ⟨taken_direct (by decide), taken_direct (by decide), by decide, by decide, by decide, by decide⟩
theorem witness_time_broadcast :
    (ready.sitePort .a).takes = true ∧ ready.addressee .a 63 = .broadcast ∧ (ready.may .a).time = true := by decide
theorem witness_time_not_marked :
    (noRights.sitePort .a).takes = true ∧ noRights.addressee .a 63 = .broadcast ∧ (noRights.may .a).time = false ∧
      ([0, 0, 1] : List Byte).length ≠ 4 ∧ (ready.sitePort .a).takes = true ∧ ready.addressee .a 63 = .broadcast := by decide
theorem witness_refusals :
    TakenDirect noRights .a 1 [] ∧ (noRights.may .a).read = false ∧ (noRights.may .a).edit = false ∧
      (noRights.may .a).restart = false ∧ noRights.holdsToken .a = false ∧ 28 < (29 : Byte).toNat ∧ (0 : Byte).toNat = 0 :=
  ⟨taken_direct (by decide), by decide, by decide, by decide, by decide, by decide, by decide⟩
/-- A length no row has, and a request that only a direct destination carries, sent to all. -/
theorem witness_refused_forms :
    TakenDirect ready .a 1 (List.replicate 9 0) ∧ (List.replicate 9 (0 : Byte)).length = 9 ∧ (ready.sitePort .a).takes = true ∧
      ready.addressee .a 63 = .broadcast :=
  ⟨taken_direct (by decide), by decide, by decide, by decide⟩
theorem witness_attention : TakenDirect ready .a 1 [3, 255] ∧ (BitVec.ofNat 10 (3 * 256 + 255)).getLsbD 8 = true :=
  ⟨taken_direct (by decide), by decide⟩
theorem witness_restart :
    TakenDirect ready .a 1 [] ∧ (ready.may .a).restart = true ∧ ready.sst.prog = .idle ∧
      (ready.withSst { ready.sst with prog := .ready 1 .factory }).sst.prog ≠ .idle ∧
      ((portAs fun q => { q with state := .reply, driving := true }).sitePort .a).restarting = false ∧
      ((portAs fun q => { q with state := .reply, driving := true, restarting := true }).sitePort .a).restarting = true :=
  ⟨taken_direct (by decide), by decide, by decide, by decide, by decide, by decide⟩
theorem witness_bad_frames :
    (ready.sitePort .a).takes = true ∧ wholeFrame [1, 1, 0, 0, 0, 0] = true ∧
      (Instr.framingError .a [1, 6, 4, 1] false).wf = true ∧ (Instr.framingError .a [1] true).wf = true ∧
      unfinished [1, 6, 0, 2, 0, 0, 0] = true := by decide
set_option maxRecDepth 4000 in
theorem witness_crc_disagrees : crcAgrees [1, 1, 0, 0, 0, 0] = false := by decide
theorem witness_quiet :
    ((portAs fun q => { q with idle := 19 }).sitePort .a).state = .listen ∧
      ((portAs fun q => { q with state := .execute }).sitePort .a).state = .execute ∧
      ((portAs fun q => { q with state := .reply }).sitePort .a).driving = false ∧
      ((portAs fun q => { q with state := .reply, driving := true, idle := 19 }).sitePort .a).idle < 20 ∧ ready.addressee .a 2 = .noOne ∧
      128 ≤ (0x82 : Byte).toNat := by decide
/-- Under group address 16, mask 48 and both enables: the unit's own address, 63, one of the group's, one of no one's and an invalid one
(R165). -/
theorem witness_addressed :
    let s := readySet fun cfg => { cfg with
      site := { cfg.site with groupAddress := 16, groupMask := 48 }, port := .all { PortSettings.default with groupEnable := true } }
    (∀ d ∈ [(1 : Byte), 63, 18, 2], d.getLsbD 7 = false ∧ d.getLsbD 6 = false) ∧ (0x41 : Byte).getLsbD 7 = false ∧
      (0x41 : Byte).getLsbD 6 = true ∧ s.site.unitAddress = 1 ∧ (s.portSet .a).broadcast = true ∧ (s.portSet .a).groupEnable = true ∧
      (∀ k, s.site.groupMask.testBit k = true → (18 : Nat).testBit k = s.site.groupAddress.testBit k) ∧
      ¬ ∀ k, s.site.groupMask.testBit k = true → (2 : Nat).testBit k = s.site.groupAddress.testBit k := by
  refine ⟨by decide, by decide, by decide, by decide, by decide, by decide, fun k h => ?_, fun h => absurd (h 4) (by decide)⟩
  have h48 : (48 : Nat).testBit k = true := h
  change (18 : Nat).testBit k = (16 : Nat).testBit k
  match k, h48 with
  | 0, h | 1, h | 2, h | 3, h => exact absurd h (by decide)
  | 4, _ | 5, _ => decide
  | k + 6, h =>
    have : (48 : Nat) < 2 ^ (k + 6) := Nat.lt_of_lt_of_le (by decide) (Nat.pow_le_pow_right (by decide) (Nat.le_add_left 6 k))
    simp [Nat.testBit_lt_two_pow this] at h
theorem witness_request_frame :
    (Instr.release .a 1 [0, 0, 0, 5]).wf = true ∧ (Instr.release .a 1 [0, 0, 0, 5]).frame? = some (1, 7, [0, 0, 0, 5]) := by decide

/-! ### Witnesses: what every step keeps -/

/-- A state in mid work: a run with a pass, a held token, a filled store, a lane with a vehicle due to seal. -/
def working : State :=
  (((stored.withRru (pendingRun 3).rru).withSst held.sst).withBuilder .one { Builder.start .open with ctx := closing }).withPending
    [.closeTimerExpiry .one]
theorem witness_working_clock : ClockOk working.sck := by
  rw [show working.sck = Clock.start from rfl]; simp [ClockOk, Clock.start, SiteTime.zero]
theorem witness_working_calibration : CalibrationOk working := by
  refine ⟨?_, ?_, trivial, fun _ => rfl, ?_⟩ <;> intro l <;> cases l <;> simp [TrackerOk, FactorOk, working, held, heldWith, stored,
    ready, State.reset, SettingsStore.startDefaults, Image.factory, DriftTracker.start, State.tracker, PerLane.get, PerLane.all,
    State.withBuilder, State.withSst, State.withRru, State.withRst, State.withVehicleNumber, State.withPorts, State.withPending]
theorem witness_working_run : RunOk working := ⟨fun _ => ⟨⟨.a, 7, .factory⟩, by decide⟩, by decide, by decide, by decide⟩
theorem witness_working_store : StoreOk working := by
  refine ⟨?_, by decide, by decide, by decide, by decide, by decide, ?_, ?_, by decide, by decide, by decide, ?_⟩
  · intro l; cases l <;> (unfold ContextOk; decide)
  · unfold NumbersBetween; decide
  · unfold NumbersBetween; decide
  · intro p; cases p <;> decide
theorem witness_read_records_sound :
    TakenDirect working .a 1 [3, 251] ∧ (working.may .a).read = true ∧ OnlyWaiter working .a ∧ working.rst.hasNew .a = true :=
  ⟨taken_direct (by decide), by decide, only_waiter (by decide), by decide⟩
theorem witness_working_formers : FormersOk working := by
  intro l; cases l <;> exact ⟨by decide, by intro r sd; cases r <;> cases sd <;> decide⟩
theorem witness_working_lanes : LanesOk working := by intro l; cases l <;> decide
theorem witness_working_slots : SlotsOk pairing ∧ SlotsOk working := ⟨slots_ok (by decide), slots_ok (by decide)⟩
theorem witness_working_lists : ListsOk downstream ∧ ListsOk working := ⟨lists_ok (by decide), lists_ok (by decide)⟩
theorem witness_working_windows : WindowsOk working := by
  refine ⟨?_, ?_, ?_, trivial⟩ <;> unfold WindowsIn <;> decide
theorem witness_working_steps : ∃ t, step working = .next t := ⟨_, rfl⟩

end Sys2Proof.Tests
end

section
/-! The site clock (R1, R3 to R8) and the start-up (R22, R42, R73, R90, R120, R131, R140, R157, R174, R175). -/

namespace Sys2Proof.Machine

/-! ### The site clock -/

theorem withSck_frame (k : Clock) (s : State) : AgreeOutside [.sck] s (s.withSck k) := by
  intro x hx; cases x <;> simp_all [Agree]

theorem holdoverExpiry_of_due {s : State} (hl : s.sck.timeState = .locked) (hh : s.sck.holdover = some 80000) :
    holdoverExpiry s = s.withSck { s.sck with timeState := .holdover } := by
  simp [holdoverExpiry, hl, hh, holdoverStrobes]

theorem timeMarkExpiry_of_due {s : State} {m : TimeMark} (hm : s.sck.mark = some m) (hn : m.strobes = 12000) :
    timeMarkExpiry s = s.withSck { s.sck with mark := none } := by
  simp [timeMarkExpiry, hm, hn, markStrobes]

theorem timePulse_unmarked {s : State} (hm : s.sck.mark = none) :
    timePulse s = s.withSck { s.sck with unmarked := min 65535 (s.sck.unmarked + 1) } := by
  simp [timePulse, hm, bump]

theorem timePulse_stepped {s : State} {m : TimeMark} (hm : s.sck.mark = some m)
    (hs : stepsTime s.sck.timeState (pulseError s.sck.time m.sec) = true) :
    timePulse s = latchDetail .timeStepped (s.withSck (s.sck.accept m.sec (pulseError s.sck.time m.sec))) := by
  simp [timePulse, hm, hs]

theorem timePulse_slewed {s : State} {m : TimeMark} (hm : s.sck.mark = some m)
    (hs : stepsTime s.sck.timeState (pulseError s.sck.time m.sec) = false) :
    timePulse s = s.withSck { s.sck.accept m.sec (pulseError s.sck.time m.sec) with
      trim := keepTrim (s.sck.trim - 250 * pulseError s.sck.time m.sec) } := by
  simp [timePulse, hm, hs]

theorem stepsTime_iff (q : TimeState) (e : Int) : stepsTime q e = true ↔ q = .unset ∨ q = .set ∨ 1000 < e.natAbs := by
  simp [stepsTime, or_assoc]

/-- Settles O6. -/
theorem clockAdvancesAndExpires : Obligations.ClockAdvancesAndExpires := by
  refine ⟨fun s => ⟨_, rfl, rfl, withSck_frame _ _⟩, fun s hl hh => ⟨_, rfl, ?_⟩, fun s m hm hn => ⟨_, rfl, ?_⟩⟩
  · rw [holdoverExpiry_of_due hl hh]
    exact ⟨rfl, withSck_frame _ _⟩
  · rw [timeMarkExpiry_of_due hm hn]
    exact ⟨rfl, withSck_frame _ _⟩

/-- Settles O7. -/
theorem unmarkedPulseOnlyCounts : Obligations.UnmarkedPulseOnlyCounts := by
  intro s hm
  refine ⟨_, rfl, ?_⟩
  rw [timePulse_unmarked hm]
  exact ⟨rfl, withSck_frame _ _⟩

/-- Settles O8: the pulse is stepped or slewed as `stepsTime` decides. -/
theorem markedPulseDisciplinesTime : Obligations.MarkedPulseDisciplinesTime := by
  intro s m hm e stepped
  have iff : stepsTime s.sck.timeState (pulseError s.sck.time m.sec) = true ↔ stepped := stepsTime_iff _ _
  refine ⟨_, rfl, ?_⟩
  cases hs : stepsTime s.sck.timeState (pulseError s.sck.time m.sec) with
  | true =>
    rw [timePulse_stepped hm hs]
    refine ⟨rfl, fun _ => ⟨rfl, fun p => by simp⟩, fun no => absurd (iff.mp hs) no, ?_⟩
    exact ((withSck_frame _ s).mono (by decide)).trans ((latchDetail_frame _ _).mono (by decide))
  | false =>
    rw [timePulse_slewed hm hs]
    have no : ¬ stepped := fun h => by simp [iff.mpr h] at hs
    exact ⟨rfl, fun h => absurd h no, fun _ => ⟨rfl, rfl⟩, (withSck_frame _ s).mono (by decide)⟩

/-! ### The start-up -/

@[simp] theorem getCh_mapCh {α β : Type} (f : Channel → α → β) (v : PerChannel α) (c : Channel) :
    getCh (mapCh f v) c = f c (getCh v c) := by simp [getCh, mapCh]

/-- A start-up leaves every block but the settings store as the settings it loads make it. -/
theorem startUp_blocks (cause : StartCause) (s : State) :
    StartedBlocks (startUp cause s) (fun c => (getCh s.sst.startUp.active.settings.channel c).enabled) (startMode s.sst.nvGood)
      (fun p => (s.sst.startUp.active.settings.port.get p).rate) (!s.sst.nvGood) := by
  refine ⟨rfl, rfl, fun c => by simp [startUp, startConditioners], rfl, fun l => PerLane.get_all _ l, rfl, rfl, rfl, rfl, rfl, rfl,
    fun p => ?_⟩
  exact PerPort.get_mapI _ _ p

theorem startUp_frame (cause : StartCause) (s : State) : AgreeOutside startUpChanges s (startUp cause s) := by
  intro x hx; cases x <;> first | rfl | exact absurd (by decide) hx

theorem SitePort.start_attention (rate : LineRate) (defaults : Bool) : (SitePort.start rate defaults).attention = true := by
  cases defaults <;> simp [SitePort.attention, SitePort.start, hasAny]

/-- The factory defaults enable every channel and give every port 115,200 bit/s. -/
theorem factory_enabled (c : Channel) : (getCh Image.factory.settings.channel c).enabled = true := by
  obtain ⟨l, r, d⟩ := c; cases l <;> cases r <;> cases d <;> rfl
theorem factory_rate (p : Port) : (Image.factory.settings.port.get p).rate = .r115200 := by cases p <;> rfl

/-- Settles O3: the settings loaded are the factory defaults. -/
theorem startUpLoadsDefaults : Obligations.StartUpLoadsDefaults := by
  intro s cause bad
  have loaded : s.sst.startUp.active = .factory := by simp [SettingsStore.startUp, bad]
  have blocks := startUp_blocks cause s
  simp only [loaded, factory_enabled, factory_rate, bad, startMode, Bool.not_false, Bool.false_eq_true, if_false] at blocks
  refine ⟨_, rfl, ?_, rfl, blocks, ?_, startUp_frame _ _⟩
  · simp [startUp, SettingsStore.startUp, bad]
  · obtain ⟨_, _, _, _, _, _, _, _, _, _, _, ports⟩ := blocks
    intro p
    rw [ports p]
    exact ⟨rfl, rfl, rfl, SitePort.start_attention _ _⟩

/-- Settles O4: the settings loaded are the stored image's. -/
theorem startUpLoadsStoredImage : Obligations.StartUpLoadsStoredImage := by
  intro s cause good
  have loaded : s.sst.startUp.active = s.sst.nv := by simp [SettingsStore.startUp, good]
  have blocks := startUp_blocks cause s
  simp only [loaded, good, startMode, Bool.not_true, if_true] at blocks
  refine ⟨_, rfl, ?_, rfl, blocks, ?_, startUp_frame _ _⟩
  · simp [startUp, SettingsStore.startUp, good]
  · obtain ⟨_, _, _, _, _, _, _, _, _, _, _, ports⟩ := blocks
    intro p
    rw [ports p]
    exact ⟨rfl, rfl, rfl, SitePort.start_attention _ _⟩

/-! ### Reset -/

theorem Clock.start_ok : ClockOk .start := by simp [ClockOk, Clock.start, SiteTime.zero]

theorem Image.factory_ok : ImageOk .factory := by
  intro l; cases l <;> simp [FactorOk, Image.factory, PerLane.get, PerLane.all]

theorem DriftTracker.start_ok : TrackerOk .start := by simp [TrackerOk, DriftTracker.start]

theorem reset_slot (c : Channel) : State.reset.slot c = .empty := by simp [State.reset, AxleFormer.start]

theorem reset_former (l : Lane) : State.reset.former l = .start := by simp [State.reset]

theorem reset_ctx (l : Lane) : State.reset.ctx l = .idle := by simp [State.reset, Builder.start]

theorem reset_calibration_ok : CalibrationOk .reset := by
  refine ⟨Image.factory_ok, Image.factory_ok, trivial, fun _ => rfl, fun l => ?_⟩
  simpa [State.reset] using DriftTracker.start_ok

theorem reset_run_ok : RunOk .reset := ⟨fun h => absurd rfl h, by simp [State.reset, RunUnit.start], by decide, by decide⟩

theorem reset_store_ok : StoreOk .reset := by
  refine ⟨fun l => ?_, by decide, by decide, by decide, by decide, by decide, ?_, ?_, by decide, by decide, by decide, ?_⟩
  · rw [reset_ctx]; simp [ContextOk, Context.idle]
  · simp [NumbersBetween, State.reset, RecordStore.start]
  · simp [NumbersBetween, State.reset, RecordStore.start]
  · intro p; cases p <;> decide

theorem reset_windows_ok : WindowsOk .reset := by
  refine ⟨?_, ?_, by simp [State.reset, SettingsStore.startDefaults], trivial⟩ <;> (unfold WindowsIn; decide)

/-- Settles O5. -/
theorem invariantsHoldAtReset : Obligations.InvariantsHoldAtReset := by
  refine ⟨Clock.start_ok, reset_calibration_ok, reset_run_ok, reset_store_ok, fun l => ?_, fun l _ => ?_, fun c m => ?_,
    fun l => ?_, reset_windows_ok⟩
  · rw [reset_former]; simp [AxleFormer.start]
  · rw [reset_ctx]; rfl
  · rw [reset_slot]; simp [Slot.held]
  · rw [reset_former]; simp [AxleFormer.start]

end Sys2Proof.Machine
end

section
/-! The block on an empty queue (R1, R2, R153 to R155, R160, R163, R164; log 3): what is due, the arbiter's next grant, and a period of
the reference. -/

namespace Sys2Proof.Machine

/-! ### Commands due -/

@[simp] theorem mem_dueIf {b : Bool} {i j : Instr} : j ∈ dueIf b i ↔ b = true ∧ j = i := by
  cases b <;> simp [dueIf]

theorem mem_duePort {s : State} {p : Port} {i : Instr} : i ∈ duePort s p ↔
    ((s.sitePort p).state = .reply ∧ (s.sitePort p).driving = false ∧ 4 * 20000000 ≤ (s.sitePort p).frameAge) ∧ i = .replyStart p := by
  simp only [duePort, mem_dueIf, Bool.and_eq_true, beq_iff_eq, Bool.not_eq_true', decide_eq_true_eq, and_assoc]
  rfl

theorem replyStart_notMem_dueSite (s : State) (p : Port) : .replyStart p ∉ dueSite s := by simp [dueSite]

theorem replyStart_notMem_dueChannel (s : State) (p : Port) (c : Channel) : .replyStart p ∉ dueChannel s c := by
  unfold dueChannel; split <;> simp

theorem replyStart_notMem_dueHalf (s : State) (p : Port) (c : Channel) : .replyStart p ∉ dueHalf s c := by
  unfold dueHalf
  split
  · split <;> simp
  · simp
  · simp

theorem replyStart_notMem_dueLane (s : State) (p : Port) (l : Lane) : .replyStart p ∉ dueLane s l := by simp [dueLane]

theorem replyStart_notMem_dueProbe (s : State) (p : Port) (q : Probe) : .replyStart p ∉ dueProbe s q := by simp [dueProbe]

theorem Port.mem_all (p : Port) : p ∈ Port.all := by cases p <;> decide

/-- Only a port's own line raises its REPLY_START. -/
theorem replyStart_mem_dueCommands {s : State} {p : Port} : .replyStart p ∈ dueCommands s ↔ .replyStart p ∈ duePort s p := by
  simp only [dueCommands, List.mem_append, List.mem_flatMap, replyStart_notMem_dueSite, replyStart_notMem_dueChannel,
    replyStart_notMem_dueHalf, replyStart_notMem_dueLane, replyStart_notMem_dueProbe, mem_dueIf, mem_duePort, and_false, exists_false,
    or_false, reduceCtorEq, Instr.replyStart.injEq]
  exact ⟨fun ⟨_, _, due, e⟩ => e ▸ ⟨due, trivial⟩, fun ⟨due, _⟩ => ⟨p, Port.mem_all p, due, rfl⟩⟩

/-! ### The next grant -/

theorem memberWaits_iff (s : State) (m : Member) : s.memberWaits m = true ↔ MemberWaits s m := by
  cases m with
  | recordCommit => simp [State.memberWaits, MemberWaits]
  | settingsEngine => cases h : s.sst.prog <;> simp [State.memberWaits, MemberWaits, Programming.stepReady, h]
  | portGroup => simp [State.memberWaits, MemberWaits, Port.mem_all]

/-- The members after the last served stand in the order of their turns. -/
theorem find_membersAfter (w : Member → Bool) (last m : Member) : (membersAfter last).find? w = some m ↔
    w m = true ∧ ∀ k, w k = true → Member.turn last m ≤ Member.turn last k := by
  have all : ∀ P : Member → Prop, (∀ k, P k) ↔ P .recordCommit ∧ P .settingsEngine ∧ P .portGroup :=
    fun P => ⟨fun h => ⟨h _, h _, h _⟩, fun ⟨a, b, c⟩ k => by cases k <;> assumption⟩
  rw [all]
  generalize ha : w .recordCommit = a
  generalize hb : w .settingsEngine = b
  generalize hc : w .portGroup = c
  cases last <;> cases m <;> cases a <;> cases b <;> cases c <;> simp [membersAfter, List.find?, ha, hb, hc, Member.turn]

theorem grantee_eq_some_iff (s : State) (m : Member) : s.grantee = some m ↔ NextMember s m := by
  simp only [State.grantee, NextMember, ← memberWaits_iff]
  split
  · simp [find_membersAfter, *]
  · simp [*]

theorem grantCommand_of_next {s : State} {m : Member} (h : NextMember s m) : grantCommand s = some (match m with
    | .recordCommit => .recordCommit
    | .settingsEngine => .programmingStep
    | .portGroup => .portGrantExecute s.lines.key) := by
  rw [grantCommand, (grantee_eq_some_iff s m).mpr h]
  cases m <;> rfl

theorem grantCommand_eq_none {s : State} (h : ∀ m, ¬ NextMember s m) : grantCommand s = none := by
  have none : s.grantee = none :=
    Option.eq_none_iff_forall_not_mem.mpr fun m hm => h m ((grantee_eq_some_iff s m).mp hm)
  rw [grantCommand, none]; rfl

/-! ### The step on an empty queue -/

theorem step_idle {s : State} (h : s.pending = []) : step s = .next (idleStep s) := by simp [step, h]

theorem idleStep_due {s : State} (h : dueCommands s ≠ []) : ∃ i ∈ dueCommands s, idleStep s = s.withPending [i] := by
  obtain ⟨i, rest, e⟩ := List.exists_cons_of_ne_nil h
  exact ⟨i, by simp [e], by simp [idleStep, e]⟩

theorem idleStep_grant {s : State} {i : Instr} (h : dueCommands s = []) (g : grantCommand s = some i) :
    idleStep s = s.withPending [i] := by simp [idleStep, h, g]

theorem idleStep_period {s : State} (h : dueCommands s = []) (g : grantCommand s = none) : idleStep s = referencePeriod s := by
  simp [idleStep, h, g]

/-! ### A period of the reference -/

theorem SitePort.bitEnds_iff (q : SitePort) : q.bitEnds = true ↔ 20000000 ≤ q.bitPhase + q.rate.bitsPerSecond := by
  rw [SitePort.bitEnds, decide_eq_true_eq]; rfl

theorem SitePort.byteEnds_iff (q : SitePort) :
    q.byteEnds = true ↔ q.driving = true ∧ min (10 * q.reply.length) (q.sentBits + 1) % 10 = 0 := by
  simp only [SitePort.byteEnds, Bool.and_eq_true, beq_iff_eq]
  exact and_congr_right fun d => by rw [SitePort.sentAfter, if_pos d]; rfl

theorem SitePort.holds_iff (q : SitePort) :
    q.holds = true ↔ q.state = .execute ∨ (q.state = .reply ∧ q.driving = false) := by simp [SitePort.holds]

theorem SitePort.period_bitPhase (q : SitePort) : q.period.bitPhase = (q.bitPhase + q.rate.bitsPerSecond) -
    (if 20000000 ≤ q.bitPhase + q.rate.bitsPerSecond then 20000000 else 0) := by
  unfold SitePort.period
  by_cases h : q.bitEnds = true
  · rw [if_pos h, if_pos (q.bitEnds_iff.mp h)]; rfl
  · rw [if_neg h, if_neg (mt q.bitEnds_iff.mpr h)]; rfl

theorem SitePort.period_frameAge (q : SitePort) : q.period.frameAge = q.aged := by
  unfold SitePort.period; dsimp only; split <;> rfl

theorem SitePort.period_sentBits (q : SitePort) : q.period.sentBits = if q.bitEnds then q.sentAfter else q.sentBits := by
  unfold SitePort.period; dsimp only; split <;> rfl

theorem SitePort.period_idle (q : SitePort) : q.period.idle =
    if q.bitEnds then (if q.byteEnds then 0 else if q.idle < 19 then q.idle + 1 else q.idle) else q.idle := by
  unfold SitePort.period; dsimp only
  split
  · simp only [SitePort.bitTime, armedBits, show q.idle + 1 < 20 ↔ q.idle < 19 by omega]
  · rfl

theorem SitePort.arms_iff (q : SitePort) : q.arms = true ↔ q.bitEnds = true ∧ q.idle = 19 ∧ ¬ q.byteEnds = true := by
  simp [SitePort.arms, armedBits]; tauto

theorem SitePort.sends_iff (q : SitePort) :
    q.sends = true ↔ q.driving = true ∧ 10 * q.reply.length ≤ q.sentBits + 1 ∧ q.bitEnds = true := by
  rw [SitePort.sends, Bool.and_eq_true, Bool.and_eq_true, decide_eq_true_eq, and_assoc, and_comm, and_assoc]; rfl

theorem referencePeriod_frame (s : State) : AgreeOutside [.pending, .sck, .port] s (referencePeriod s) := by
  intro x hx; cases x <;> first | rfl | exact absurd (by decide) hx

/-- What a period raises, in its order: the carries, the arming of ports, the ends of replies. -/
theorem referencePeriod_pending (s : State) : (referencePeriod s).pending =
    dueIf (decide (2 ^ 32 ≤ s.sck.usAcc.toNat + (usWord s.sck.trim).toNat)) .siteTimeAdvance ++
    dueIf (decide (2 ^ 32 ≤ s.sck.scanAcc.toNat + (scanWord s.sck.trim).toNat)) (.scanStrobe s.lines.loops) ++
    Port.all.flatMap (fun p => dueIf (s.sitePort p).arms (.portArmed p)) ++
    Port.all.flatMap (fun p => dueIf (s.sitePort p).sends (.replySent p)) := rfl

theorem mem_referencePeriod {s : State} {i : Instr} : i ∈ (referencePeriod s).pending ↔
    (2 ^ 32 ≤ s.sck.usAcc.toNat + (usWord s.sck.trim).toNat ∧ i = .siteTimeAdvance) ∨
    (2 ^ 32 ≤ s.sck.scanAcc.toNat + (scanWord s.sck.trim).toNat ∧ i = .scanStrobe s.lines.loops) ∨
    (∃ p, (s.sitePort p).arms = true ∧ i = .portArmed p) ∨ (∃ p, (s.sitePort p).sends = true ∧ i = .replySent p) := by
  simp only [referencePeriod_pending, List.mem_append, List.mem_flatMap, Port.mem_all, true_and, mem_dueIf, decide_eq_true_eq, or_assoc]

theorem referencePeriod_port (s : State) (p : Port) : (referencePeriod s).sitePort p = (s.sitePort p).period := by
  simp [referencePeriod]

/-- Settles O2: the first command due, else the arbiter's next grant, else a period of the reference. -/
theorem emptyQueueStepsAccumulators : Obligations.EmptyQueueStepsAccumulators := by
  refine ⟨fun s hq hd => ?_, fun s p => ?_, fun s hq hd => ⟨fun n => ?_, fun n => ?_, fun n => ?_⟩, fun s hq hd hn => ?_⟩
  · obtain ⟨i, hi, e⟩ := idleStep_due hd
    exact ⟨i, hi, by rw [step_idle hq, e]⟩
  · rw [replyStart_mem_dueCommands, mem_duePort]; simp
  all_goals try rw [step_idle hq, idleStep_grant hd (grantCommand_of_next n)]
  intro bit bits byte
  have hbit : ∀ p, (s.sitePort p).bitEnds = true ↔ bit p := fun p => SitePort.bitEnds_iff _
  have hbyte : ∀ p, (s.sitePort p).byteEnds = true ↔ byte p := fun p => SitePort.byteEnds_iff _
  refine ⟨_, step_idle hq, ?_⟩
  rw [idleStep_period hd (grantCommand_eq_none hn)]
  refine ⟨rfl, ?_, ?_, fun p => ?_, fun p => ?_, fun i hi => ?_, ⟨_, _, referencePeriod_pending s, fun p => ?_, fun i hi => ?_⟩,
    fun p => ?_, referencePeriod_frame s⟩
  · simp [mem_referencePeriod]
  · simp [mem_referencePeriod]
  · rw [← hbit, ← hbyte, ← SitePort.arms_iff]; simp [mem_referencePeriod]
  · rw [← hbit, ← SitePort.sends_iff]; simp [mem_referencePeriod]
  · rcases mem_referencePeriod.mp hi with ⟨_, e⟩ | ⟨_, e⟩ | ⟨p, _, e⟩ | ⟨p, _, e⟩
    · exact .inl e
    · exact .inr (.inl e)
    · exact .inr (.inr ⟨p, .inl e⟩)
    · exact .inr (.inr ⟨p, .inr e⟩)
  · simp
  · obtain ⟨p, _, h⟩ := List.mem_flatMap.mp hi
    exact ⟨p, (mem_dueIf.mp h).2⟩
  · intro q rate held
    rw [referencePeriod_port]
    refine ⟨SitePort.period_bitPhase q, fun h => ?_, fun h => ?_, fun b => ?_, fun b y => ?_, fun b y => ?_, fun b => ?_,
      SitePort.period_frame q⟩
    · rw [SitePort.period_frameAge, SitePort.aged, if_pos ((SitePort.holds_iff q).mpr h)]; rfl
    · rw [SitePort.period_frameAge, SitePort.aged, if_neg (mt (SitePort.holds_iff q).mp h)]
    · rw [SitePort.period_sentBits, if_pos ((hbit p).mpr b)]; rfl
    · rw [SitePort.period_idle, if_pos ((hbit p).mpr b), if_pos ((hbyte p).mpr y)]
    · rw [SitePort.period_idle, if_pos ((hbit p).mpr b), if_neg (mt (hbyte p).mp y)]
    · have nb := mt (hbit p).mp b
      exact ⟨by rw [SitePort.period_sentBits, if_neg nb], by rw [SitePort.period_idle, if_neg nb]⟩

end Sys2Proof.Machine
end

section
/-! TIME MARK and TIME SET (R5, R9, R165, R183). -/

namespace Sys2Proof.Machine

/-! ### A request to many -/

/-- A group or broadcast request that its row lets be executed: its checks and its rule run with the request in hand, nothing is told,
and the port is back in LISTEN (R165). -/
theorem takeRequest_toMany {s : State} {p : Port} {dest : Byte} {payload : List Byte} (ht : (s.sitePort p).takes = true)
    (hl : payload.length ≤ 1024) (hd : s.addressee p dest = .broadcast ∨ s.addressee p dest = .group) (len : Bool)
    (needs : Privileges → Bool) (act : State → Action) (code : Byte) :
    takeRequest true len needs act p dest code payload s =
      toListen p (silently (checked len (needs (s.may p)) act (hold p (buildFrame dest code payload) s))) := by
  unfold takeRequest
  rw [ht]
  rcases hd with e | e <;> simp [e, Nat.not_lt.mpr hl, State.may]

theorem toListen_hold (p : Port) (frame : List Byte) (s : State) : toListen p (hold p frame s) = toListen p s := by
  simp [toListen, hold, State.withPort, SitePort.listening, SitePort.quiet]

theorem toListen_port (p : Port) (s : State) : (toListen p s).port = s.port.set p ((s.sitePort p).listening (s.portSet p).rate) := rfl

theorem toListen_frame (p : Port) (s : State) : AgreeOutside [.port] s (toListen p s) := by
  intro x hx; cases x <;> simp_all [Agree, toListen]

theorem hold_frame (p : Port) (frame : List Byte) (s : State) : AgreeOutside [.port] s (hold p frame s) := by
  intro x hx; cases x <;> simp_all [Agree, hold]

/-! ### The requests' own work -/

theorem checked_passes {len allowed : Bool} (hl : len = true) (ha : allowed = true) (act : State → Action) (s : State) :
    checked len allowed act s = act s := by simp [checked, hl, ha]

/-- A direct request that passes its checks: its own rule runs with the request in hand. -/
theorem takeRequest_passes {s : State} {p : Port} {dest : Byte} {payload : List Byte} {len : Bool} {needs : Privileges → Bool}
    (h : TakenDirect s p dest payload) (hl : len = true) (ha : needs (s.may p) = true) (g : Bool) (act : State → Action) (code : Byte) :
    takeRequest g len needs act p dest code payload s = settleAction p dest (act (inHand p dest code payload s)) := by
  rw [takeRequest_direct h, checked_passes hl ha]

theorem silently_checked_fails {len allowed : Bool} (h : len = false ∨ allowed = false) (act : State → Action) (s : State) :
    silently (checked len allowed act s) = s := by
  rcases h with e | e <;> cases len <;> cases allowed <;> simp_all [checked, silently, refuse]

theorem exactly_iff {n : Nat} {payload : List Byte} : exactly n payload = true ↔ payload.length = n := by simp [exactly]

theorem setMark_sck (sec : Word32) (s : State) : (setMark sec s).sck = { s.sck with mark := some ⟨sec, 0⟩ } := rfl
theorem setMark_frame (sec : Word32) (s : State) : AgreeOutside [.sck] s (setMark sec s) := by
  intro x hx; cases x <;> simp_all [Agree, setMark]
theorem setTime_frame (sec : Word32) (us : Nat) (s : State) : AgreeOutside [.sck] s (setTime sec us s) := by
  intro x hx; cases x <;> simp_all [Agree, setTime]

theorem actTimeSet_beyond {payload : List Byte} {s : State} (h : 999999 < field payload 4 4) :
    actTimeSet payload s = refuse .invalid s := by simp [actTimeSet, h]

theorem actTimeSet_denied {payload : List Byte} {s : State} (h : field payload 4 4 ≤ 999999)
    (ht : s.sck.timeState = .locked ∨ s.sck.timeState = .holdover) : actTimeSet payload s = refuse .denied s := by
  rcases ht with e | e <;> simp [actTimeSet, Nat.not_lt.mpr h, e]

theorem actTimeSet_taken {payload : List Byte} {s : State} (h : field payload 4 4 ≤ 999999)
    (ht : s.sck.timeState = .unset ∨ s.sck.timeState = .set) :
    actTimeSet payload s = okay (setTime (fieldWord payload 0) (field payload 4 4) s) := by
  rcases ht with e | e <;> simp [actTimeSet, Nat.not_lt.mpr h, e]

/-- A direct request whose rule changes the clock alone and then answers. -/
theorem answered_withSck {s u : State} {p : Port} {dest code : Byte} {payload : List Byte} {st : Status} {answer : List Byte}
    (h : AgreeOutside [.sck] (inHand p dest code payload s) u) :
    let t := settleAction p dest (.answer u st answer)
    t.sck = u.sck ∧ Answered s t p dest code payload st answer ∧ t.sst = LeaseRestarted p s.sst ∧
      AgreeOutside [.sck, .port, .sst] s t := by
  have held := (inHand_frame p dest code payload s).mono (M := [.sck, .port, .sst]) (by decide)
  have told := (settle_frame p dest u st answer).mono (M := [.sck, .port, .sst]) (by decide)
  refine ⟨rfl, answered_of_answer (h .port (by decide)), ?_, (held.trans (h.mono (by decide))).trans told⟩
  exact (h .sst (by decide)).trans (inHand_sst _ _ _ _ _)

/-- Settles O48. -/
theorem timeMarkedAndSet : Obligations.TimeMarkedAndSet := by
  refine ⟨fun s p dest payload ht hp => ⟨fun h4 => ⟨_, rfl, ?_⟩, fun h8 => ⟨_, rfl, ?_⟩⟩,
    fun s p dest payload ht h4 hd hp => ⟨_, rfl, ?_⟩, fun s p dest payload ht hl hd hf => ⟨_, rfl, ?_⟩⟩
  · rw [takeRequest_passes ht (exactly_iff.mpr h4) hp]
    obtain ⟨sck, rest⟩ := answered_withSck (s := s) (p := p) (dest := dest) (code := 10) (payload := payload) (st := .ok) (answer := [])
      (setMark_frame (fieldWord payload 0) _)
    exact ⟨by rw [actTimeMark, okay, sck, setMark_sck, inHand_sck]; rfl, rest⟩
  · rw [takeRequest_passes ht (exactly_iff.mpr h8) hp]
    refine ⟨fun big => ?_, fun small locked => ?_, fun small free => ?_⟩
    · rw [actTimeSet_beyond big]; exact onlyAnswered
    · rw [actTimeSet_denied small (by simpa using locked)]; exact onlyAnswered
    · rw [actTimeSet_taken small (by simpa using free)]
      obtain ⟨sck, rest⟩ := answered_withSck (s := s) (p := p) (dest := dest) (code := 11) (payload := payload) (st := .ok)
        (answer := []) (setTime_frame (fieldWord payload 0) (field payload 4 4) _)
      exact ⟨by rw [okay, sck, setTime]; simp [fieldWord], rest⟩
  · rw [takeRequest_toMany ht (by omega) hd, checked_passes (exactly_iff.mpr h4) hp]
    refine ⟨rfl, ?_, ?_⟩
    · simp [toListen, silently, actTimeMark, okay, setMark, hold, SitePort.listening, SitePort.quiet]
    · exact (((hold_frame p _ s).mono (by decide)).trans ((setMark_frame _ _).mono (by decide))).trans
        ((toListen_frame _ _).mono (by decide))
  · have fails : exactly 4 payload = false ∨ (s.may p).time = false := hf.imp (fun h => by simp [exactly, h]) id
    rw [takeRequest_toMany ht hl hd, silently_checked_fails fails, toListen_hold]
    exact ⟨toListen_port p s, toListen_frame p s⟩

end Sys2Proof.Machine
end

section
/-! The working copy of the settings: WRITE SETTING, DISCARD and READ SETTING (R177, R186). -/

namespace Sys2Proof.Machine

/-! ### The ranges a value is written in -/

theorem isSome_ite {α : Type} (P : Prop) [Decidable P] (x : α) : (if P then some x else none).isSome = true ↔ P := by
  split <;> simp [*]

theorem natIn_isSome (lo hi : Nat) (v : List Byte) : (natIn lo hi v).isSome = true ↔ NumIn lo hi v := isSome_ite _ _

theorem byCode_isSome {α : Type} (values : List α) (v : List Byte) : (byCode values v).isSome = true ↔ CodeIn values.length v := by
  simp [byCode, CodeIn]

theorem field_drop (v : List Byte) (a b k : Nat) : field (v.drop a) b k = field v (a + b) k := by simp [field]

theorem fieldInt_drop (v : List Byte) (a b k : Nat) : fieldInt (v.drop a) b k = fieldInt v (a + b) k := by simp [fieldInt, field_drop]

/-- A property of every point of a curve, by the points' offsets. -/
theorem forall_mem_pointsOf (P : Int → Int → Prop) : ∀ (n : Nat) (v : List Byte),
    (∀ p ∈ pointsOf n v, P p.x p.y) ↔ ∀ k, k < n → P (fieldInt v (6 * k) 4) (fieldInt v (4 + 6 * k) 2)
  | 0, v => by simp [pointsOf]
  | n + 1, v => by
    simp only [pointsOf, List.mem_cons, forall_eq_or_imp, forall_mem_pointsOf P n, fieldInt_drop, Nat.forall_lt_succ_left']
    simp only [Nat.mul_zero, Nat.mul_add, Nat.mul_one, Nat.add_comm, Nat.add_left_comm]

/-- A property of every window of a class rule, by the windows' offsets. -/
theorem forall_mem_windowsOf (P : Nat → Nat → Prop) : ∀ (n : Nat) (v : List Byte),
    (∀ w ∈ windowsOf n v, P w.lo w.hi) ↔ ∀ k, k < n → P (field v (4 * k) 2) (field v (2 + 4 * k) 2)
  | 0, v => by simp [windowsOf]
  | n + 1, v => by
    simp only [windowsOf, List.mem_cons, forall_eq_or_imp, forall_mem_windowsOf P n, field_drop, Nat.forall_lt_succ_left']
    simp only [Nat.mul_zero, Nat.mul_add, Nat.mul_one, Nat.add_comm, Nat.add_left_comm]

theorem curveOf_isSome (most : Nat) (xlo xhi ylo yhi : Int) (v : List Byte) :
    (curveOf most xlo xhi ylo yhi v).isSome = true ↔ CurveIn most xlo xhi ylo yhi v := by
  rw [curveOf, isSome_ite, CurveIn]
  refine and_congr_right fun _ => and_congr_right fun _ => ?_
  simp only [List.all_eq_true, decide_eq_true_eq]
  rw [forall_mem_pointsOf fun x y => xlo ≤ x ∧ x ≤ xhi ∧ ylo ≤ y ∧ y ≤ yhi]
  simp only [fieldInt_drop, ← Nat.add_assoc]

theorem probeNumber_isSome (n : Nat) : (Probe.ofNumber? n).isSome = true ↔ n ≤ 3 := by
  match n with
  | 0 | 1 | 2 | 3 => simp [Probe.ofNumber?]
  | n + 4 => simp [Probe.ofNumber?]

theorem probeMapOf_isSome (v : List Byte) : (probeMapOf v).isSome = true ↔ field v 0 1 ≤ 3 ∧ field v 1 1 ≤ 3 := by
  rw [← probeNumber_isSome, ← probeNumber_isSome, probeMapOf]
  cases Probe.ofNumber? (field v 0 1) <;> cases Probe.ofNumber? (field v 1 1) <;> simp

theorem forall_lt_four (P : Nat → Prop) : (∀ k, k < 4 → P k) ↔ P 0 ∧ P 1 ∧ P 2 ∧ P 3 :=
  ⟨fun h => ⟨h 0 (by decide), h 1 (by decide), h 2 (by decide), h 3 (by decide)⟩,
    fun ⟨a, b, c, d⟩ k hk => by interval_cases k <;> assumption⟩

theorem limitsOf_isSome (v : List Byte) : (limitsOf v).isSome = true ↔ LimitsIn v 0 := by
  rw [limitsOf, isSome_ite, LimitsIn]
  simp [forall_lt_four, and_assoc]

theorem limitsIn_drop (v : List Byte) (n m : Nat) : LimitsIn (v.drop n) m ↔ LimitsIn v (n + m) := by
  simp only [LimitsIn, field_drop, Nat.add_assoc]

theorem all_boundOf (n : Nat) (P : Nat → Bool) : (boundOf n).all P = true ↔ (n ≠ 4294967295 → P n = true) := by
  unfold boundOf noBound; split <;> simp [*]

theorem isSome_bind_ite {α β : Type} (x : Option α) (P : Prop) [Decidable P] (f : α → β) :
    (x.bind fun a => if P then some (f a) else none).isSome = true ↔ P ∧ x.isSome = true := by
  cases x <;> simp

theorem classRuleOf_isSome (v : List Byte) : (classRuleOf v).isSome = true ↔ ClassRuleIn v := by
  refine (isSome_bind_ite _ _ _).trans ?_
  have bounds : 3 + 4 * field v 2 1 + 4 = 7 + 4 * field v 2 1 := by omega
  have limits : 3 + 4 * field v 2 1 + 8 = 11 + 4 * field v 2 1 := by omega
  simp only [limitsOf_isSome, limitsIn_drop, all_boundOf, List.all_eq_true, decide_eq_true_eq, field_drop,
    forall_mem_windowsOf (fun lo hi => lo ≤ hi), ClassRuleIn, Nat.add_zero, bounds, limits, ← Nat.add_assoc, and_assoc,
    Nat.reduceAdd]

/-- A value is written exactly when it lies in its item's range. -/
theorem writeItem_isSome (v : List Byte) (cfg : Settings) (i : Item) : (writeItem v cfg i).isSome = true ↔ InRange v i := by
  cases i <;> simp only [writeItem, InRange, Option.isSome_map, Option.isSome_some, natIn_isSome, byCode_isSome, curveOf_isSome,
    probeMapOf_isSome, limitsOf_isSome, classRuleOf_isSome] <;> rfl


/-! ### The requests' own work -/

/-- The holder's session with the request in hand: its lease restarted, its working copy kept. -/
theorem inHand_edit_holder {s : State} {e : EditSession} {p : Port} (he : s.sst.edit = some e) (hp : e.holder = p) (dest code : Byte)
    (payload : List Byte) : (inHand p dest code payload s).sst = { s.sst with edit := some { e with lease := 0 } } := by
  simp [LeaseRestarted, he, hp]

theorem inHand_settings (p : Port) (dest code : Byte) (payload : List Byte) (s : State) :
    (inHand p dest code payload s).settings = s.settings := by simp

theorem actWriteSetting_written {u : State} {e : EditSession} {p : Port} (he : u.sst.edit = some e) (hp : e.holder = p)
    {payload : List Byte} {i : Item} {w : Settings} (hi : namedItem payload = some i)
    (hw : writeItem (payload.drop 3) e.working i = some w) : actWriteSetting p payload u = okay (withWorking w u) := by
  simp [actWriteSetting, he, hp, hi, hw]

theorem actWriteSetting_refused {u : State} {e : EditSession} {p : Port} (he : u.sst.edit = some e) (hp : e.holder = p)
    {payload : List Byte} (hn : ∀ i, namedItem payload = some i → writeItem (payload.drop 3) e.working i = none) :
    actWriteSetting p payload u = refuse .invalid u := by
  cases hi : namedItem payload with
  | none => simp [actWriteSetting, he, hp, hi]
  | some i => simp [actWriteSetting, he, hp, hi, hn i hi]

theorem withWorking_frame (w : Settings) (s : State) : AgreeOutside [.sst] s (withWorking w s) := by
  intro x hx; cases x <;> simp_all [Agree, withWorking]

/-- A direct request of the holder that replaces the working copy and is answered OK. -/
theorem answered_withWorking {s : State} {e : EditSession} {p : Port} (he : s.sst.edit = some e) (hp : e.holder = p) (dest code : Byte)
    (payload : List Byte) (w : Settings) :
    let t := settleAction p dest (okay (withWorking w (inHand p dest code payload s)))
    t.sst = { s.sst with edit := some { e with lease := 0, working := w } } ∧ Answered s t p dest code payload .ok [] ∧
      AgreeOutside [.port, .sst] s t := by
  refine ⟨?_, answered_of_answer rfl, ?_⟩
  · simp only [okay, settleAction, enterReply, State.withPort_sst, withWorking, State.withSst_sst, inHand_edit_holder he hp,
      Option.map_some]
  · exact ((inHand_frame p dest code payload s).trans ((withWorking_frame w _).mono (by decide))).trans
      ((settle_frame p dest _ _ _).mono (by decide))

/-- WRITE SETTING and DISCARD of the holder. -/
theorem workingCopy_edited (s : State) (p : Port) (dest : Byte) (payload : List Byte) (e : EditSession) (he : s.sst.edit = some e)
    (hp : e.holder = p) :
    (TakenDirect s p dest payload → writeSettingLength payload = true →
      ∃ t, exec (.writeSetting p dest payload) s = .next t ∧
        (∀ i, Item.ofId? (field payload 0 2) (field payload 2 1) = some i →
          (InRange (payload.drop 3) i → ∃ w, writeItem (payload.drop 3) e.working i = some w ∧
            t.sst = { s.sst with edit := some { e with lease := 0, working := w } } ∧
            Answered s t p dest 16 payload .ok [] ∧ AgreeOutside [.port, .sst] s t) ∧
          (¬ InRange (payload.drop 3) i → OnlyAnswered s t p dest 16 payload .invalid [])) ∧
        (Item.ofId? (field payload 0 2) (field payload 2 1) = none → OnlyAnswered s t p dest 16 payload .invalid [])) ∧
    (TakenDirect s p dest [] → ∃ t, exec (.discard p dest []) s = .next t ∧
      t.sst = { s.sst with edit := some { e with lease := 0, working := s.settings } } ∧
      Answered s t p dest 18 [] .ok [] ∧ AgreeOutside [.port, .sst] s t) := by
  have held : (inHand p dest 16 payload s).sst.edit = some { e with lease := 0 } := by rw [inHand_edit_holder he hp]
  refine ⟨fun ht hl => ⟨_, rfl, fun i hi => ⟨fun inside => ?_, fun outside => ?_⟩, fun unknown => ?_⟩, fun ht => ⟨_, rfl, ?_⟩⟩
  · obtain ⟨w, hw⟩ := Option.isSome_iff_exists.mp ((writeItem_isSome _ e.working i).mpr inside)
    rw [takeRequest_passes (needs := needsNone) ht hl rfl, actWriteSetting_written held hp hi hw]
    exact ⟨w, hw, answered_withWorking he hp _ _ _ _⟩
  · have none : writeItem (payload.drop 3) e.working i = none :=
      Option.not_isSome_iff_eq_none.mp (mt (writeItem_isSome _ _ _).mp outside)
    rw [takeRequest_passes (needs := needsNone) ht hl rfl, actWriteSetting_refused held hp fun j hj => by
      rwa [← Option.some.inj (hi.symm.trans hj)]]
    exact onlyAnswered
  · rw [takeRequest_passes (needs := needsNone) ht hl rfl, actWriteSetting_refused held hp fun j hj => by simp [namedItem, unknown] at hj]
    exact onlyAnswered
  · have holds : (inHand p dest 18 [] s).holdsToken p = true := by rw [inHand_holds]; simp [State.holdsToken, he, hp]
    rw [takeRequest_passes (len := exactly 0 []) (needs := needsNone) ht rfl rfl, holderOnly, if_pos holds, actDiscard,
      State.settings_eq, inHand_edit_holder he hp]
    exact answered_withWorking he hp _ _ _ _

theorem readSetting_source (a b index source : Byte) : field [a, b, index, source] 3 1 = source.toNat := by simp [field, bytesNat]

theorem readSetting_item (a b index source : Byte) :
    namedItem [a, b, index, source] = Item.ofId? (a.toNat * 256 + b.toNat) index.toNat := by simp [namedItem, field, bytesNat]

/-- The settings that READ SETTING answers from: those in use by source 0, the holder's working copy by source 1 (R177). -/
def ReadsFrom (p : Port) (payload : List Byte) (u : State) (cfg : Settings) : Prop :=
  (field payload 3 1 = 0 ∧ cfg = u.settings) ∨
    (field payload 3 1 = 1 ∧ ∃ e, u.sst.edit = some e ∧ e.holder = p ∧ cfg = e.working)

theorem actReadSetting_known {u : State} {p : Port} {payload : List Byte} {cfg : Settings} {i : Item} (h : ReadsFrom p payload u cfg)
    (hi : namedItem payload = some i) : actReadSetting p payload u = okWith (readItem cfg i) u := by
  rcases h with ⟨hs, rfl⟩ | ⟨hs, e, he, hp, rfl⟩
  · simp [actReadSetting, hs, hi]
  · simp [actReadSetting, hs, hi, he, hp]

theorem actReadSetting_unknown {u : State} {p : Port} {payload : List Byte} {cfg : Settings} (h : ReadsFrom p payload u cfg)
    (hi : namedItem payload = none) : actReadSetting p payload u = refuse .invalid u := by
  rcases h with ⟨hs, _⟩ | ⟨hs, e, he, hp, _⟩
  · simp [actReadSetting, hs, hi]
  · simp [actReadSetting, hs, hi, he, hp]

theorem actReadSetting_notHolder {u : State} {p : Port} {payload : List Byte} (hs : field payload 3 1 = 1)
    (hn : u.holdsToken p = false) : actReadSetting p payload u = refuse .notHolder u := by
  cases he : u.sst.edit with
  | none => simp [actReadSetting, hs, he]
  | some e =>
    have other : e.holder ≠ p := by simpa [State.holdsToken, he] using hn
    simp [actReadSetting, hs, he, other]

theorem actReadSetting_beyond {u : State} {p : Port} {payload : List Byte} (hs : 1 < field payload 3 1) :
    actReadSetting p payload u = refuse .invalid u := by
  obtain ⟨n, hn⟩ := Nat.exists_eq_add_of_lt hs
  rw [show 1 + n + 1 = n + 2 by omega] at hn
  simp [actReadSetting, hn]

theorem holdsToken_iff {s : State} {p : Port} : s.holdsToken p = true ↔ ∃ e, s.sst.edit = some e ∧ e.holder = p := by
  cases h : s.sst.edit <;> simp [State.holdsToken, h]

/-- Settles O45. -/
theorem workingCopyEditedAndRead : Obligations.WorkingCopyEditedAndRead := by
  refine ⟨workingCopy_edited, fun s p dest a b index source ht hr => ?_⟩
  intro payload item
  have hi : namedItem payload = item := readSetting_item a b index source
  have hs : field payload 3 1 = source.toNat := readSetting_source a b index source
  refine ⟨_, rfl, ?_⟩
  rw [takeRequest_passes (payload := payload) (len := exactly 4 payload) (needs := Privileges.read) ht rfl hr]
  have active : source = 0 → ReadsFrom p payload (inHand p dest 15 payload s) s.settings := fun zero =>
    .inl ⟨by rw [hs, zero]; rfl, (inHand_settings ..).symm⟩
  have working : ∀ e, source = 1 → s.sst.edit = some e → e.holder = p →
      ReadsFrom p payload (inHand p dest 15 payload s) e.working := fun e one he hp =>
    .inr ⟨by rw [hs, one]; rfl, { e with lease := 0 }, by rw [inHand_edit_holder he hp], hp, rfl⟩
  refine ⟨fun i some_i zero => ?_, fun i e some_i one he hp => ?_, fun one no => ?_, fun no_item from' => ?_, fun beyond => ?_⟩
  · rw [actReadSetting_known (active zero) (hi.trans some_i)]
    exact onlyAnswered
  · rw [actReadSetting_known (working e one he hp) (hi.trans some_i)]
    exact onlyAnswered
  · rw [actReadSetting_notHolder (by rw [hs, one]; rfl) (by rw [inHand_holds, no])]
    exact onlyAnswered
  · rcases from' with zero | ⟨one, holds⟩
    · rw [actReadSetting_unknown (active zero) (hi.trans no_item)]
      exact onlyAnswered
    · obtain ⟨e, he, hp⟩ := holdsToken_iff.mp holds
      rw [actReadSetting_unknown (working e one he hp) (hi.trans no_item)]
      exact onlyAnswered
  · rw [actReadSetting_beyond (by rw [hs]; exact beyond)]
    exact onlyAnswered

end Sys2Proof.Machine
end

section
/-! The scan link receiver: the margin latches, the first marker, and the scans assembled and buffered (R11 to R15, R17). -/

namespace Sys2Proof.Machine

/-! ### Latched details -/

theorem hasAny_or_left {w : Nat} {f g b : BitVec w} (h : hasAny f b = true) : hasAny (f ||| g) b = true := by
  simp only [hasAny, bne_iff_ne, ne_eq, BitVec.and_or_distrib_right] at h ⊢
  exact fun e => h (BitVec.or_eq_zero_iff.mp e).1

theorem hasAny_or_mask (f : BitVec 11) (d : Detail) : hasAny (f ||| d.mask) d.mask = true := by
  rw [BitVec.or_comm]
  exact hasAny_or_left (by cases d <;> rfl)

/-- A detail stands at a port. -/
def State.latched (s : State) (d : Detail) (p : Port) : Prop := hasAny (s.sitePort p).details d.mask = true

theorem latchDetail_latched (d : Detail) (s : State) (p : Port) : (latchDetail d s).latched d p := by
  simpa [State.latched, SitePort.latchDetail] using hasAny_or_mask _ _

theorem latchDetail_keeps {d : Detail} {s : State} {p : Port} (h : s.latched d p) (e : Detail) : (latchDetail e s).latched d p := by
  simpa [State.latched, SitePort.latchDetail] using hasAny_or_left h

theorem latchDetailIf_latched {b : Bool} (hb : b = true) (d : Detail) (s : State) (p : Port) : (latchDetailIf b d s).latched d p := by
  rw [latchDetailIf, if_pos hb]; exact latchDetail_latched d s p

theorem latchDetailIf_keeps {d : Detail} {s : State} {p : Port} (h : s.latched d p) (b : Bool) (e : Detail) :
    (latchDetailIf b e s).latched d p := by
  unfold latchDetailIf; split
  · exact latchDetail_keeps h e
  · exact h

/-! ### The margin latches (R17) -/

theorem evalMargin_slr (s : State) : (evalMargin s).slr = { s.slr with
    margin2 := s.slr.margin2 || decide (margin s.slr.occ ≤ 2), margin1 := s.slr.margin1 || decide (margin s.slr.occ ≤ 1) } := by
  simp [evalMargin]

/-- A change of the occupancy evaluates the margins, the latches before it being those of an earlier state. -/
theorem evalMargin_latched {s u : State} (h1 : u.slr.margin1 = s.slr.margin1) (h2 : u.slr.margin2 = s.slr.margin2) :
    MarginsLatched u.slr.occ s (evalMargin u) := by
  refine ⟨by rw [evalMargin_slr, h2]; rfl, by rw [evalMargin_slr, h1]; rfl, fun low p => ⟨?_, ?_⟩, fun lowest p => ?_⟩
  · exact latchDetailIf_latched (decide_eq_true low) _ _ p
  · exact latchDetailIf_keeps (latchDetailIf_latched (decide_eq_true low) _ _ p) _ _
  · exact latchDetailIf_keeps (latchDetailIf_keeps (latchDetailIf_latched (decide_eq_true lowest) _ _ p) _ _) _ _

/-! ### The first marker (R12) -/

/-- The fill entries stand from a position on, the positions counted round the 16. -/
theorem fillFrom_getElem? : ∀ (n pos : Nat) (buf : List Entry), buf.length = 16 → pos < 16 → n ≤ 16 → ∀ i, i < 16 →
    (fillFrom n pos buf)[i]? = if (i + 16 - pos) % 16 < n then some .fill else buf[i]?
  | 0, pos, buf, _, _, _, i, _ => by simp [fillFrom]
  | n + 1, pos, buf, hb, hp, hn, i, hi => by
    have next := fillFrom_getElem? n ((pos + 1) % 16) (buf.set (pos % 16) .fill) (by simpa using hb) (by omega) (by omega) i hi
    rw [fillFrom, next, Nat.mod_eq_of_lt hp]
    by_cases e : pos = i
    · subst e
      have here : (pos + 16 - pos) % 16 < n + 1 := by omega
      rw [List.getElem?_set_self (by omega), ite_self, if_pos here]
    · rw [List.getElem?_set_ne e]
      have shift : (i + 16 - (pos + 1) % 16) % 16 < n ↔ (i + 16 - pos) % 16 < n + 1 := by omega
      simp only [shift]

/-- What entry to RUNNING makes of the link. -/
theorem enterRunning_slr (marker : List Word16) (s : State) : ∃ m1 m2, (enterRunning marker s).slr = { s.slr with
    state := .running, wr := (s.slr.rd + s.site.bufferOffset) % 16, buf := fillFrom s.site.bufferOffset s.slr.rd s.slr.buf
    occ := s.site.bufferOffset, slipPending := false, partialScan := marker, halfMarker := false, lastScan := none
    margin1 := m1, margin2 := m2 } := by
  simp [enterRunning, evalMargin_slr]

theorem enterRunning_margins (marker : List Word16) (s : State) :
    MarginsLatched s.site.bufferOffset s (enterRunning marker s) :=
  evalMargin_latched (u := s.withSlr { s.slr with
    state := .running, wr := (s.slr.rd + s.site.bufferOffset) % 16, buf := fillFrom s.site.bufferOffset s.slr.rd s.slr.buf
    occ := s.site.bufferOffset, slipPending := false, partialScan := marker, halfMarker := false, lastScan := none }) rfl rfl

/-- The state in which an arrival is taken: the silence count restarted. -/
def State.heard (s : State) : State := s.withSlr { s.slr with silence := 0 }

/-- The state in which an arrival outside RUNNING is examined: ALIGNING, the silence count restarted, a search in DOWN begun anew. -/
def State.examining (s : State) : State :=
  s.withSlr { s.slr with
    state := .aligning, silence := 0, halfMarker := if s.slr.state = .down then false else s.slr.halfMarker }

theorem heard_frame (s : State) : AgreeOutside [.slr] s s.heard := withSlr_frame _ s
theorem examining_frame (s : State) : AgreeOutside [.slr] s s.examining := withSlr_frame _ s

theorem linkArrival_examined {s : State} (h : s.slr.state ≠ .running) (tagged : Bool) (v : Word16) :
    linkArrival tagged v s = alignArrival tagged v s.examining := by
  cases hs : s.slr.state with
  | running => exact absurd hs h
  | down => simp [linkArrival, State.examining, hs, State.withSlr]
  | aligning => simp [linkArrival, State.examining, hs, State.withSlr]

theorem linkArrival_running {s : State} (h : s.slr.state = .running) (tagged : Bool) (v : Word16) :
    linkArrival tagged v s = runningArrival tagged v s.heard := by
  simp [linkArrival, State.heard, h]

theorem alignArrival_wide {s : State} (h : s.site.linkMode = .wide) (tagged : Bool) (v : Word16) :
    alignArrival tagged v s = if tagged then enterRunning [v] s else s := by simp only [alignArrival, h]

theorem alignArrival_narrow {s : State} (h : s.site.linkMode = .narrow) (tagged : Bool) (v : Word16) :
    alignArrival tagged v s = if tagged then
        if s.slr.halfMarker then enterRunning [v, v] s else s.withSlr { s.slr with halfMarker := true }
      else s.withSlr { s.slr with halfMarker := false } := by
  simp only [alignArrival, h]
  by_cases half : s.slr.halfMarker = true
  · simp only [if_pos half]
  · have same : s = s.withSlr { s.slr with halfMarker := false } := by rw [← Bool.not_eq_true _ |>.mp half]; rfl
    simp only [if_neg half]
    cases tagged
    · exact same
    · rfl

/-- The link and the ports after the first marker, found in a state whose search began from another. -/
theorem started_of_enterRunning (marker : List Word16) (s : State) :
    let t := enterRunning marker s.examining
    t.slr.state = .running ∧ t.slr.rd = s.slr.rd ∧ t.slr.wr = (s.slr.rd + s.site.bufferOffset) % 16 ∧
      t.slr.occ = s.site.bufferOffset ∧ t.slr.slipPending = false ∧ t.slr.partialScan = marker ∧ t.slr.silence = 0 ∧
      t.slr.slips = s.slr.slips ∧ t.slr.lastScan = none ∧ MarginsLatched s.site.bufferOffset s t ∧
      (s.slr.buf.length = 16 → s.slr.rd < 16 → s.site.bufferOffset ≤ 16 → ∀ i, i < 16 →
        t.slr.buf[i]? = if (i + 16 - s.slr.rd) % 16 < s.site.bufferOffset then some .fill else s.slr.buf[i]?) ∧
      AgreeOutside [.slr, .port] s t := by
  intro t
  obtain ⟨m1, m2, e⟩ := enterRunning_slr marker s.examining
  have margins : MarginsLatched s.site.bufferOffset s.examining t := enterRunning_margins marker s.examining
  have frame : AgreeOutside [.slr, .port] s t := ((examining_frame s).mono (by decide)).trans (enterRunning_frame _ _)
  refine ⟨congrArg Link.state e, (congrArg Link.rd e).trans rfl, congrArg Link.wr e, congrArg Link.occ e, congrArg Link.slipPending e,
    congrArg Link.partialScan e, (congrArg Link.silence e).trans rfl, (congrArg Link.slips e).trans rfl, congrArg Link.lastScan e,
    margins, fun hb hr ho i hi => ?_, frame⟩
  rw [show t.slr.buf = _ from congrArg Link.buf e]
  exact fillFrom_getElem? _ _ _ hb hr ho i hi

/-- Settles O11. -/
theorem markerStartsRunning : Obligations.MarkerStartsRunning := by
  intro s v hs
  refine ⟨⟨fun wide => ⟨_, rfl, ?_⟩, fun narrow aligning half => ⟨_, rfl, ?_⟩, fun narrow first => ⟨_, rfl, ?_⟩⟩, ⟨_, rfl, ?_⟩⟩
  all_goals rw [linkArrival_examined hs]
  · rw [alignArrival_wide (s := s.examining) wide, if_pos rfl]
    exact started_of_enterRunning [v] s
  · have found : s.examining.slr.halfMarker = true := by simpa [State.examining, aligning] using half
    rw [alignArrival_narrow (s := s.examining) narrow, if_pos rfl, if_pos found]
    exact started_of_enterRunning [v, v] s
  · have begun : ¬ s.examining.slr.halfMarker = true := by
      rcases first with down | no <;> simp [State.examining, *]
    rw [alignArrival_narrow (s := s.examining) narrow, if_pos rfl, if_neg begun]
    exact ⟨rfl, withSlr_frame _ s⟩
  · cases hm : s.site.linkMode with
    | wide =>
      rw [alignArrival_wide (s := s.examining) hm]
      exact ⟨nofun, rfl, examining_frame s⟩
    | narrow =>
      rw [alignArrival_narrow (s := s.examining) hm]
      exact ⟨fun _ => rfl, rfl, withSlr_frame _ s⟩

/-! ### Scans assembled and buffered (R11, R13, R15) -/

/-- The number a pair of halves spells in narrow mode. -/
theorem toNat_halves (a b : Word16) : ((a.setWidth 8 ++ b.setWidth 8 : BitVec 16)).toNat = a.toNat % 256 * 256 + b.toNat % 256 := by
  rw [BitVec.toNat_append, ← Nat.shiftLeft_add_eq_or_of_lt (b.setWidth 8).isLt, Nat.shiftLeft_eq]
  simp

theorem scanWordAt_toNat (mode : LinkMode) (units : List Word16) (k : Nat) : (scanWordAt mode units k).toNat =
    if mode = .wide then (units.getD k 0).toNat
    else (units.getD (2 * k) 0).toNat % 256 * 256 + (units.getD (2 * k + 1) 0).toNat % 256 := by
  cases mode
  · rfl
  · exact toNat_halves _ _

/-- The channels of a scan are its words 1 to 12. -/
theorem assemble_samples (mode : LinkMode) (units : List Word16) (c : Channel) :
    getCh (assemble mode units).samples c = scanWordAt mode units (c.index + 1) := by
  obtain ⟨l, r, d⟩ := c
  cases l <;> cases r <;> cases d <;> rfl

theorem markerUnits_eq (mode : LinkMode) : markerUnits mode = if mode = .wide then 1 else 2 := by cases mode <;> rfl
theorem scanUnits_eq (mode : LinkMode) : scanUnits mode = if mode = .wide then 15 else 30 := by cases mode <;> rfl
theorem markerUnits_lt_scanUnits (mode : LinkMode) : markerUnits mode + 1 < scanUnits mode := by cases mode <;> decide

/-- An arrival of the right kind before the last unit joins the scan. -/
theorem runningArrival_joins {s : State} {tagged : Bool}
    (ht : tagged = decide (s.slr.partialScan.length < markerUnits s.site.linkMode))
    (hn : s.slr.partialScan.length + 1 < scanUnits s.site.linkMode) (v : Word16) :
    runningArrival tagged v s = s.withSlr { s.slr with partialScan := s.slr.partialScan ++ [v] } := by
  unfold runningArrival
  simp only [List.length_append, List.length_singleton]
  rw [if_pos ht, if_pos hn]

/-- The last unit completes the scan. -/
theorem runningArrival_completes {s : State} (hn : s.slr.partialScan.length + 1 = scanUnits s.site.linkMode) (v : Word16) :
    runningArrival false v s = completeScan (assemble s.site.linkMode (s.slr.partialScan ++ [v])) s := by
  have least := markerUnits_lt_scanUnits s.site.linkMode
  have last : false = decide (s.slr.partialScan.length < markerUnits s.site.linkMode) := by
    rw [eq_comm, decide_eq_false_iff_not]; omega
  unfold runningArrival
  simp only [List.length_append, List.length_singleton]
  rw [if_pos last, if_neg (by omega)]

/-- Below occupancy 16 a completed scan is written at the write position. -/
theorem completeScan_room {s : State} (h : s.slr.occ < 16) (d : Scan) :
    let t := completeScan d s
    (∃ m1 m2, t.slr = { s.slr with
      buf := s.slr.buf.set s.slr.wr (.scan d), wr := (s.slr.wr + 1) % 16, occ := s.slr.occ + 1, partialScan := []
      margin1 := m1, margin2 := m2 }) ∧ MarginsLatched (s.slr.occ + 1) s t := by
  simp only [completeScan, if_pos h]
  refine ⟨⟨_, _, evalMargin_slr _⟩, ?_⟩
  exact evalMargin_latched (u := s.withSlr { s.slr with
    buf := s.slr.buf.set s.slr.wr (.scan d), wr := (s.slr.wr + 1) % 16, occ := s.slr.occ + 1, partialScan := [] }) rfl rfl

theorem completeScan_full {s : State} (h : ¬ s.slr.occ < 16) (d : Scan) : completeScan d s = latchDetail .scanLink
    (s.withSlr { s.slr with slipPending := true, slips := bump 65535 s.slr.slips, partialScan := [] }) := by
  simp only [completeScan, if_neg h]

/-- Settles O12. -/
theorem completedScanIsBuffered : Obligations.CompletedScanIsBuffered := by
  intro s v hs wide n units word
  have least := markerUnits_lt_scanUnits s.site.linkMode
  refine ⟨fun marker => ⟨_, rfl, ?_⟩, fun after before => ⟨_, rfl, ?_⟩, fun last => ⟨_, rfl, ?_⟩⟩
  all_goals rw [linkArrival_running hs]
  · have marker' : n < markerUnits s.site.linkMode := by rw [markerUnits_eq]; exact marker
    rw [runningArrival_joins (s := s.heard) (decide_eq_true marker').symm (by change n + 1 < scanUnits s.site.linkMode; omega)]
    exact ⟨rfl, withSlr_frame _ s⟩
  · have after' : ¬ n < markerUnits s.site.linkMode := by rw [markerUnits_eq]; exact Nat.not_lt.mpr after
    rw [runningArrival_joins (s := s.heard) (decide_eq_false after').symm (by rw [scanUnits_eq]; exact before)]
    exact ⟨rfl, withSlr_frame _ s⟩
  · have frame : ∀ d, AgreeOutside [.slr, .port] s (completeScan d s.heard) := fun d =>
      ((heard_frame s).mono (by decide)).trans (completeScan_frame _ _)
    have words : ∀ k, (scanWordAt s.site.linkMode units k).toNat = word k := scanWordAt_toNat _ _
    rw [runningArrival_completes (s := s.heard) (by rw [scanUnits_eq]; exact last)]
    by_cases room : s.slr.occ < 16
    · obtain ⟨⟨m1, m2, e⟩, margins⟩ := completeScan_room (s := s.heard) room (assemble s.site.linkMode units)
      refine ⟨congrArg Link.partialScan e, congrArg Link.silence e, fun _ => ⟨⟨assemble s.site.linkMode units, ?_, fun c => ?_, ?_, ?_⟩,
        congrArg Link.wr e, congrArg Link.occ e, (congrArg Link.slips e).trans rfl, (congrArg Link.slipPending e).trans rfl, margins⟩,
        fun full => absurd room full, frame _⟩
      · exact congrArg Link.buf e
      · rw [assemble_samples, words]
      · exact words 13
      · exact words 14
    · have e := completeScan_full (s := s.heard) room (assemble s.site.linkMode units)
      refine ⟨congrArg (fun t : State => t.slr.partialScan) e, congrArg (fun t : State => t.slr.silence) e, fun h => absurd h room,
        fun _ => ?_, frame _⟩
      change completeScan (assemble s.heard.site.linkMode (s.heard.slr.partialScan ++ [v])) s.heard = _ at e
      rw [e]
      exact ⟨rfl, rfl, rfl, rfl, rfl, fun p => by simp [State.heard]⟩

end Sys2Proof.Machine
end

section
/-! What the operations outside the data path can change: timers, token, commits, the store, the ports' lines, requests. With them,
that every step keeps the clock's figures in their ranges (R1, R3 to R9). -/

namespace Sys2Proof.Machine

/-! ### Timers, token, programming -/

theorem withSst_frame (x : SettingsStore) (s : State) : AgreeOutside [.sst] s (s.withSst x) := by
  intro y hy; cases y <;> simp_all [Agree]

theorem withRru_frame (u : RunUnit) (s : State) : AgreeOutside [.rru] s (s.withRru u) := by
  intro x hx; cases x <;> simp_all [Agree]

theorem withTracker_frame (l : Lane) (x : DriftTracker) (s : State) : AgreeOutside [.dtk] s (s.withTracker l x) := by
  intro y hy; cases y <;> simp_all [Agree]

theorem withPort_frame (p : Port) (q : SitePort) (s : State) : AgreeOutside [.port] s (s.withPort p q) := by
  intro x hx; cases x <;> simp_all [Agree]

theorem withPorts_frame (q : PerPort SitePort) (s : State) : AgreeOutside [.port] s (s.withPorts q) := by
  intro x hx; cases x <;> simp_all [Agree]

theorem withSea_frame (a : Arbiter) (s : State) : AgreeOutside [.sea] s (s.withSea a) := by
  intro x hx; cases x <;> simp_all [Agree]

theorem withRst_frame (r : RecordStore) (s : State) : AgreeOutside [.rst] s (s.withRst r) := by
  intro x hx; cases x <;> simp_all [Agree]

theorem timeMarkExpiry_frame (s : State) : AgreeOutside [.sck] s (timeMarkExpiry s) :=
  agreeOutside_ite _ (withSck_frame _ s) (.refl _ s)

theorem holdoverExpiry_frame (s : State) : AgreeOutside [.sck] s (holdoverExpiry s) :=
  agreeOutside_ite _ (withSck_frame _ s) (.refl _ s)

theorem runPendingTimeout_frame (s : State) : AgreeOutside [.rru] s (runPendingTimeout s) :=
  agreeOutside_ite _ (withRru_frame _ s) (.refl _ s)

theorem runArmedTimeout_frame (s : State) : AgreeOutside [.rru] s (runArmedTimeout s) :=
  agreeOutside_ite _ (withRru_frame _ s) (.refl _ s)

theorem freeToken_frame (s : State) : AgreeOutside [.rru, .sst] s (freeToken s) :=
  ((withSst_frame _ s).mono (by decide)).trans ((endRunIf_frame _ _ _).mono (by decide))

theorem editTokenExpiry_frame (s : State) : AgreeOutside [.rru, .sst, .port] s (editTokenExpiry s) := by
  unfold editTokenExpiry
  split
  · split
    · exact ((freeToken_frame s).mono (by decide)).trans ((withPort_frame _ _ _).mono (by decide))
    · exact .refl _ s
  · exact .refl _ s

theorem startProgramming_frame (s : State) : AgreeOutside [.sst] s (startProgramming s) := withSst_frame _ s

theorem takeApplication_frame (l : Lane) (a : Application) (s : State) :
    AgreeOutside (.sst :: sealingChanges) s (takeApplication l a s) :=
  ((((withSst_frame _ s).mono (by decide)).trans ((riseNotices_frame _ _).mono (by decide))).trans
    ((startProgramming_frame _).mono (by decide))).trans ((withTracker_frame _ _ _).mono (by decide))

theorem driftApplicationTaken_frame (l : Lane) (s : State) : AgreeOutside (.sst :: sealingChanges) s (driftApplicationTaken l s) := by
  unfold driftApplicationTaken
  split
  · exact agreeOutside_ite _ (takeApplication_frame _ _ _) (.refl _ s)
  · exact .refl _ s

theorem beginGrant_frame (m : Member) (s : State) : AgreeOutside [.sea] s (beginGrant m s) := withSea_frame _ s
theorem servePort_frame (p : Port) (s : State) : AgreeOutside [.sea] s (servePort p s) := withSea_frame _ s
theorem endGrant_frame (s : State) : AgreeOutside [.sea] s (endGrant s) := withSea_frame _ s

theorem programmingStep_frame (s : State) : AgreeOutside [.sst, .sea] s (programmingStep s) := by
  unfold programmingStep
  refine agreeOutside_ite _ ?_ (.refl _ s)
  split
  · exact (((beginGrant_frame _ s).mono (by decide)).trans ((withSst_frame _ _).mono (by decide))).trans
      ((endGrant_frame _).mono (by decide))
  · exact .refl _ s
  · exact .refl _ s

theorem programmingWriteDone_frame (b : Bool) (s : State) : AgreeOutside [.sst, .port] s (programmingWriteDone b s) := by
  unfold programmingWriteDone
  split
  · refine agreeOutside_ite _ ?_ (agreeOutside_ite _ ?_ ?_)
    · exact ((withSst_frame _ s).mono (by decide)).trans ((latchDetail_frame _ _).mono (by decide))
    · exact (withSst_frame _ s).mono (by decide)
    · exact (withSst_frame _ s).mono (by decide)
  · exact .refl _ s
  · exact .refl _ s

/-! ### Applied commits -/

theorem conditionersCommit_frame (old new : Settings) (s : State) : AgreeOutside [.cc] s (conditionersCommit old new s) :=
  withCc_frame _ s

theorem formersCommit_frame (old new : Settings) (s : State) : AgreeOutside [.axf] s (formersCommit old new s) :=
  agreeOutside_foldl _ (fun s l => withFormer_frame l _ s) _ s

theorem trackersCommit_frame (lanes : PerLane Bool) (s : State) : AgreeOutside [.dtk] s (trackersCommit lanes s) :=
  agreeOutside_foldl _ (fun s l => agreeOutside_ite _ (withTracker_frame l _ s) (.refl _ s)) _ s

theorem runCommit_frame (lanes : PerLane Bool) (s : State) : AgreeOutside [.rru] s (runCommit lanes s) := endRunIf_frame _ _ s

theorem monitorCommit_frame (old new : Settings) (s : State) : AgreeOutside [.ptm, .port] s (monitorCommit old new s) := by
  refine agreeOutside_ite _ ?_ (agreeOutside_foldl _ (fun s l => agreeOutside_ite _ (.refl _ s) ?_) _ s)
  · exact (((withPtm_frame _ s).mono (by decide)).trans ((latchDetail_frame _ _).mono (by decide))).trans
      ((reevaluateLanes_frame _).mono (by decide))
  · exact (reevaluateLane_frame l s).mono (by decide)

theorem portsCommit_frame (new : Settings) (s : State) : AgreeOutside [.port] s (portsCommit new s) := withPorts_frame _ s

theorem linkCommit_frame (old new : Settings) (s : State) : AgreeOutside trafficChanges s (linkCommit old new s) := by
  unfold linkCommit
  refine agreeOutside_ite _ (.refl _ s) ?_
  split
  · exact leaveRunning_frame _ s
  · exact (withSlr_frame _ s).mono (by decide)
  · exact .refl _ s

theorem riseCommit_frame (old new : Settings) (s : State) : AgreeOutside (.sst :: sealingChanges) s (riseCommit old new s) :=
  agreeOutside_ite _ ((((withSst_frame _ s).mono (by decide)).trans ((riseNotices_frame _ _).mono (by decide))).trans
    ((trackersCommit_frame _ _).mono (by decide)) |>.trans ((runCommit_frame _ _).mono (by decide))) (.refl _ s)

theorem applyCommit_frame (new : Settings) (s : State) : AgreeOutside (.sst :: trafficChanges) s (applyCommit new s) := by
  unfold applyCommit
  dsimp only
  refine AgreeOutside.trans ?_ ((startProgramming_frame _).mono (by decide))
  refine AgreeOutside.trans ?_ ((linkCommit_frame _ _ _).mono (by decide))
  refine AgreeOutside.trans ?_ ((portsCommit_frame _ _).mono (by decide))
  refine AgreeOutside.trans ?_ ((monitorCommit_frame _ _ _).mono (by decide))
  refine AgreeOutside.trans ?_ ((formersCommit_frame _ _ _).mono (by decide))
  refine AgreeOutside.trans ?_ ((conditionersCommit_frame _ _ _).mono (by decide))
  exact ((withSst_frame _ s).mono (by decide)).trans ((riseCommit_frame _ _ _).mono (by decide))

/-! ### The record store -/

theorem reevaluate_frame (p : Port) (s : State) : AgreeOutside [.port] s (reevaluate p s) := withPort_frame _ _ s

theorem moveCursor_frame (p : Port) (n : Nat) (s : State) : AgreeOutside [.rst, .port] s (moveCursor p n s) :=
  ((withRst_frame _ s).mono (by decide)).trans ((reevaluate_frame p _).mono (by decide))

theorem replaceFilter_frame (p : Port) (f : Filter) (s : State) : AgreeOutside [.rst, .port] s (replaceFilter p f s) :=
  ((withRst_frame _ s).mono (by decide)).trans ((reevaluate_frame p _).mono (by decide))

theorem makeRoom_frame (size : Nat) : ∀ (rs : List Record) (s : State), AgreeOutside [.rst, .port] s (makeRoom size rs s)
  | [], s => (withRst_frame _ s).mono (by decide)
  | r :: rest, s => agreeOutside_ite _
      (((withPorts_frame _ s).mono (by decide)).trans (makeRoom_frame size rest _)) ((withRst_frame _ s).mono (by decide))

theorem commitRecord_frame (r : Record) (queue : List Record) (s : State) : AgreeOutside [.rst, .port] s (commitRecord r queue s) :=
  ((makeRoom_frame _ _ s).trans ((withRst_frame _ _).mono (by decide))).trans ((withPorts_frame _ _).mono (by decide))

theorem recordCommitGrant_frame (s : State) : AgreeOutside [.rst, .sea, .port] s (recordCommitGrant s) := by
  unfold recordCommitGrant
  refine agreeOutside_ite _ ?_ (.refl _ s)
  split
  · exact (((beginGrant_frame _ s).mono (by decide)).trans ((commitRecord_frame _ _ _).mono (by decide))).trans
      ((endGrant_frame _).mono (by decide))
  · exact .refl _ s

/-! ### The ports' lines -/

theorem offLine_frame (p : Port) (n : Nat) (s : State) : AgreeOutside [.port] s (offLine p n s) := withPort_frame _ _ s

theorem framingDrop_frame (p : Port) (s : State) : AgreeOutside [.port] s (framingDrop p s) :=
  (toListen_frame p s).trans (withPort_frame _ _ _)

theorem frameCrcError_frame (p : Port) (frame : List Byte) (s : State) : AgreeOutside [.port] s (frameCrcError p frame s) :=
  agreeOutside_ite _ (.refl _ s) (agreeOutside_ite _ (offLine_frame _ _ s) ((toListen_frame p s).trans (withPort_frame _ _ _)))

theorem otherUnitReply_frame (p : Port) (first : Byte) (payload : List Byte) (s : State) :
    AgreeOutside [.port] s (otherUnitReply p first payload s) :=
  agreeOutside_ite _ (.refl _ s) (agreeOutside_ite _ (offLine_frame _ _ s) (toListen_frame p s))

theorem frameNotAddressed_frame (p : Port) (dest : Byte) (payload : List Byte) (s : State) :
    AgreeOutside [.port] s (frameNotAddressed p dest payload s) :=
  agreeOutside_ite _ (.refl _ s) (agreeOutside_ite _ (offLine_frame _ _ s) (agreeOutside_ite _ (toListen_frame p s) (.refl _ s)))

theorem framingError_frame (p : Port) (bytes : List Byte) (b : Bool) (s : State) : AgreeOutside [.port] s (framingError p bytes b s) :=
  agreeOutside_ite _ (.refl _ s) (agreeOutside_ite _ (offLine_frame _ _ s) (framingDrop_frame p s))

theorem frameGapTimeout_frame (p : Port) (bytes : List Byte) (s : State) : AgreeOutside [.port] s (frameGapTimeout p bytes s) :=
  agreeOutside_ite _ (.refl _ s) (agreeOutside_ite _ (offLine_frame _ _ s) ((framingDrop_frame p s).trans (withPort_frame _ _ _)))

theorem overrun_frame (p : Port) (s : State) : AgreeOutside [.port] s (overrun p s) :=
  agreeOutside_ite _ (offLine_frame _ _ s) (.refl _ s)

theorem portArmed_frame (p : Port) (s : State) : AgreeOutside [.port] s (portArmed p s) := withPort_frame _ _ s

theorem replyStart_frame (p : Port) (s : State) : AgreeOutside [.port] s (replyStart p s) :=
  agreeOutside_ite _ (withPort_frame _ _ s) (.refl _ s)

theorem byteNotArmed_frame (p : Port) (s : State) : AgreeOutside [.port] s (byteNotArmed p s) :=
  agreeOutside_ite _ (withPort_frame _ _ s) (.refl _ s)

/-! ### Requests -/

theorem withKey_frame (key : Bool) (s : State) : AgreeOutside [.lines] s (s.withKey key) := by
  intro x hx; cases x <;> simp_all [Agree, State.withKey]

theorem settleAction_frame (p : Port) (dest : Byte) (a : Action) : AgreeOutside [.port] (silently a) (settleAction p dest a) := by
  cases a with
  | answer u st answer => exact settle_frame p dest u st answer
  | wait u => exact .refl _ u

/-- A request changes what its rule changes, its port, and the holder's lease. -/
theorem takeRequest_frame {L : List Part} {act : State → Action} (h : ∀ u, AgreeOutside L u (silently (act u))) (g len : Bool)
    (needs : Privileges → Bool) (p : Port) (dest code : Byte) (payload : List Byte) (s : State) :
    AgreeOutside (.port :: .sst :: L) s (takeRequest g len needs act p dest code payload s) := by
  have onPort : ∀ {t u : State}, AgreeOutside [.port] t u → AgreeOutside (.port :: .sst :: L) t u := fun k =>
    k.mono (by simp)
  have checks : ∀ (b : Bool) (u : State), AgreeOutside (.port :: .sst :: L) u (silently (checked len b act u)) := by
    intro b u
    unfold checked
    split
    · exact .refl _ u
    · split
      · exact .refl _ u
      · exact (h u).mono fun x hx => List.mem_cons_of_mem _ (List.mem_cons_of_mem _ hx)
  unfold takeRequest
  refine agreeOutside_ite _ (onPort (offLine_frame _ _ s)) (agreeOutside_ite _ (onPort (framingDrop_frame p s)) ?_)
  dsimp only
  split
  · exact onPort (toListen_frame p s)
  · exact (((inHand_frame p dest code payload s).mono (by simp)).trans (checks _ _)).trans (onPort (settleAction_frame p dest _))
  · exact agreeOutside_ite _ (((onPort (hold_frame p _ s)).trans (checks _ _)).trans (onPort (toListen_frame p _)))
      (onPort (toListen_frame p s))
  · exact agreeOutside_ite _ (((onPort (hold_frame p _ s)).trans (checks _ _)).trans (onPort (toListen_frame p _)))
      (onPort (toListen_frame p s))

/-! ### The requests' own rules -/

theorem holderOnly_frame {L : List Part} {act : State → Action} (h : ∀ u, AgreeOutside L u (silently (act u))) (p : Port) (s : State) :
    AgreeOutside L s (silently (holderOnly p act s)) := by
  unfold holderOnly
  split
  · exact h s
  · exact .refl L s

theorem drawn_frame (s : State) : AgreeOutside [.freeCount] s (drawn s) := by
  intro x hx; cases x <;> simp_all [Agree, drawn]

theorem actTimeMark_frame (payload : List Byte) (s : State) : AgreeOutside [.sck] s (silently (actTimeMark payload s)) :=
  setMark_frame _ s

theorem actTimeSet_frame (payload : List Byte) (s : State) : AgreeOutside [.sck] s (silently (actTimeSet payload s)) := by
  unfold actTimeSet
  repeat' split
  all_goals first | exact setTime_frame _ _ s | exact .refl _ s

theorem actLaneMode_frame (payload : List Byte) (s : State) : AgreeOutside sealingChanges s (silently (actLaneMode payload s)) := by
  unfold actLaneMode
  dsimp only
  repeat' split
  all_goals first | exact .refl _ s | exact agreeOutside_foldl _ (fun s l => setLaneMode_frame _ l s) _ s

theorem driftChecked_frame {work : Lane → State → Action} (h : ∀ l u, AgreeOutside [.dtk] u (silently (work l u))) (p : Port)
    (payload : List Byte) (s : State) : AgreeOutside [.dtk] s (silently (driftChecked p payload work s)) := by
  unfold driftChecked
  split
  · exact .refl _ s
  · refine holderOnly_frame (fun u => ?_) p s
    split
    · exact h _ u
    · exact .refl _ u

theorem applyProposal_frame (l : Lane) (s : State) : AgreeOutside [.dtk] s (silently (applyProposal l s)) := by
  unfold applyProposal
  split
  · exact withTracker_frame _ _ s
  · exact .refl _ s

theorem resetDrift_frame (l : Lane) (s : State) : AgreeOutside [.dtk] s (silently (resetDrift l s)) := by
  unfold resetDrift
  split
  · exact .refl _ s
  · exact withTracker_frame _ _ s

theorem actStartRun_frame (p : Port) (payload : List Byte) (s : State) : AgreeOutside [.rru] s (silently (actStartRun p payload s)) := by
  unfold actStartRun
  dsimp only
  repeat' split
  all_goals first | exact .refl _ s | exact withRru_frame _ s

theorem actAcceptPass_frame (payload : List Byte) (s : State) : AgreeOutside [.rru] s (silently (actAcceptPass payload s)) := by
  unfold actAcceptPass
  split
  · exact withRru_frame _ s
  · exact .refl _ s

theorem actRejectPass_frame (payload : List Byte) (s : State) : AgreeOutside [.rru] s (silently (actRejectPass payload s)) := by
  unfold actRejectPass
  split
  · exact withRru_frame _ s
  · exact .refl _ s

theorem actApplyRun_frame (s : State) : AgreeOutside [.sst, .rru] s (silently (actApplyRun s)) := by
  unfold actApplyRun
  split
  · exact .refl _ s
  · split
    · exact .refl _ s
    · exact ((withSst_frame _ s).mono (by decide)).trans ((withRru_frame _ _).mono (by decide))

theorem actEndRun_frame (s : State) : AgreeOutside [.rru] s (silently (actEndRun s)) := by
  unfold actEndRun
  split
  · exact .refl _ s
  · exact withRru_frame _ s

theorem actRestart_frame (p : Port) (s : State) : AgreeOutside [.port] s (silently (actRestart p s)) := by
  unfold actRestart
  split
  · exact .refl _ s
  · exact withPort_frame _ _ s

theorem actClaimEdit_frame (p : Port) (s : State) : AgreeOutside [.sst] s (silently (actClaimEdit p s)) := by
  unfold actClaimEdit
  split
  · exact withSst_frame _ s
  · split <;> exact .refl _ s

theorem actWriteSetting_frame (p : Port) (payload : List Byte) (s : State) :
    AgreeOutside [.sst] s (silently (actWriteSetting p payload s)) := by
  unfold actWriteSetting
  repeat' split
  all_goals first | exact withWorking_frame _ s | exact .refl _ s

theorem actReadSetting_frame (p : Port) (payload : List Byte) (s : State) :
    AgreeOutside [] s (silently (actReadSetting p payload s)) := by
  unfold actReadSetting
  dsimp only
  repeat' split
  all_goals exact .refl _ s

theorem actReadRecords_frame (payload : List Byte) (s : State) : AgreeOutside [] s (silently (actReadRecords payload s)) := by
  unfold actReadRecords; split <;> exact .refl _ s

theorem actSetFilter_frame (payload : List Byte) (s : State) : AgreeOutside [] s (silently (actSetFilter payload s)) := by
  unfold actSetFilter; split <;> exact .refl _ s

theorem actSeek_frame (payload : List Byte) (s : State) : AgreeOutside [] s (silently (actSeek payload s)) := by
  unfold actSeek; split <;> exact .refl _ s

theorem unknownRequest_frame (p : Port) (dest code : Byte) (payload : List Byte) (s : State) :
    AgreeOutside [.port, .sst] s (unknownRequest p dest code payload s) :=
  agreeOutside_ite _ (.refl _ s) (takeRequest_frame (fun u => .refl [] u) _ _ _ _ _ _ _ s)

/-! ### Requests at their grant -/

theorem grantRelease_frame (p : Port) (payload : List Byte) (s : State) :
    AgreeOutside [.rst, .port] s (silently (grantRelease p payload s)) := by
  unfold grantRelease
  dsimp only
  repeat' split
  all_goals first | exact .refl _ s | exact moveCursor_frame _ _ s

theorem grantSeek_frame (p : Port) (payload : List Byte) (s : State) : AgreeOutside [.rst, .port] s (silently (grantSeek p payload s)) := by
  unfold grantSeek
  dsimp only
  repeat' split
  all_goals first | exact moveCursor_frame _ _ s | exact .refl _ s

theorem grantCommit_frame (p : Port) (s : State) : AgreeOutside (.sst :: trafficChanges) s (silently (grantCommit p s)) := by
  unfold grantCommit
  repeat' split
  all_goals first | exact applyCommit_frame _ s | exact .refl _ s

/-- What the grant of a request may change: what a commit may, and the draw counter. -/
def grantChanges : List Part := .freeCount :: .sst :: trafficChanges

theorem executeHeld_frame (p : Port) (code : Nat) (payload : List Byte) (s : State) :
    AgreeOutside grantChanges s (silently (executeHeld p code payload s)) := by
  unfold executeHeld
  split
  · exact (drawn_frame s).mono (by decide)
  · exact .refl _ s
  · exact (grantRelease_frame p payload s).mono (by decide)
  · exact (grantSeek_frame p payload s).mono (by decide)
  · exact (replaceFilter_frame p _ s).mono (by decide)
  · exact (grantCommit_frame p s).mono (by decide)

theorem portGrantExecute_frame (s : State) : AgreeOutside (.sea :: grantChanges) s (portGrantExecute s) := by
  unfold portGrantExecute
  refine agreeOutside_ite _ ?_ (.refl _ s)
  split
  · dsimp only
    refine AgreeOutside.trans ?_ ((endGrant_frame _).mono (by decide))
    refine AgreeOutside.trans ?_ ((settleAction_frame _ _ _).mono (by decide))
    refine AgreeOutside.trans ?_ ((executeHeld_frame _ _ _ _).mono (by decide))
    exact ((beginGrant_frame _ s).mono (by decide)).trans ((servePort_frame _ _).mono (by decide))
  · exact .refl _ s

/-! ### Events still due -/

/-- What the events still due may change, the clock's two apart: all but the queue, the pins, the clock, the arbiter, the start cause
and the draw counter. -/
def settleChanges : List Part := .sst :: trafficChanges

/-- The events still due, the clock's two apart. -/
def settleBlocks (s : State) : State :=
  settleDrift (editTokenExpiry (runArmedTimeout (runPendingTimeout
    (settleMonitor (Lane.all.foldl settleLane (settleHalves (settleConditioners (linkSilence s))))))))

theorem settle_eq (s : State) : settle s = settleBlocks (holdoverExpiry (timeMarkExpiry s)) := rfl

theorem settleChannel_frame (c : Channel) (s : State) : AgreeOutside trafficChanges s (settleChannel s c) :=
  ((((acquireComplete_frame c s).mono (by decide)).trans ((recoverComplete_frame c _).mono (by decide))).trans
    ((pulseEnd_frame c _).mono (by decide))).trans ((pulseAbandoned_frame c _).mono (by decide))

theorem settleConditioners_frame (s : State) : AgreeOutside trafficChanges s (settleConditioners s) :=
  agreeOutside_foldl _ (fun s c => settleChannel_frame c s) _ s

theorem settleHalves_frame (s : State) : AgreeOutside formerChanges s (settleHalves s) :=
  agreeOutside_foldl _ (fun s c => halfWindowEnd_frame c s) _ s

theorem settleLane_frame (l : Lane) (s : State) : AgreeOutside formerChanges s (settleLane s l) :=
  ((((upstreamExpiry_frame l s).trans ((loopChange_frame l _).mono (by decide))).trans
    ((loopFaultEntry_frame l _).mono (by decide))).trans ((closeTimerExpiry_frame l _).mono sealing_in_former)).trans
    ((triggerPulseEnd_frame l _).mono (by decide))

theorem settleMonitor_frame (s : State) : AgreeOutside [.ptm, .port] s (settleMonitor s) :=
  (agreeOutside_foldl _ (fun s p => (probeReading_frame p s).trans (probeStale_frame p _)) _ s).trans
    (agreeOutside_foldl _ (fun s l => (laneTempLost_frame l s).mono (by decide)) _ _)

theorem settleDrift_frame (s : State) : AgreeOutside (.sst :: sealingChanges) s (settleDrift s) :=
  agreeOutside_foldl _ (fun s l => driftApplicationTaken_frame l s) _ s

theorem settleBlocks_frame (s : State) : AgreeOutside settleChanges s (settleBlocks s) := by
  unfold settleBlocks
  refine AgreeOutside.trans ?_ ((settleDrift_frame _).mono (by decide))
  refine AgreeOutside.trans ?_ ((editTokenExpiry_frame _).mono (by decide))
  refine AgreeOutside.trans ?_ ((runArmedTimeout_frame _).mono (by decide))
  refine AgreeOutside.trans ?_ ((runPendingTimeout_frame _).mono (by decide))
  refine AgreeOutside.trans ?_ ((settleMonitor_frame _).mono (by decide))
  refine AgreeOutside.trans ?_ (agreeOutside_foldl _ (fun s l => (settleLane_frame l s).mono (by decide)) _ _)
  refine AgreeOutside.trans ?_ ((settleHalves_frame _).mono (by decide))
  refine AgreeOutside.trans ?_ ((settleConditioners_frame _).mono (by decide))
  exact (linkSilence_frame s).mono (by decide)

/-! ### Commands -/

theorem scanStrobe_frame (loops : BitVec 6) (s : State) : AgreeOutside (.lines :: .sck :: settleChanges) s (scanStrobe loops s) := by
  unfold scanStrobe
  refine AgreeOutside.trans ?_ ((strobeRead_frame _).mono (by decide))
  have timers : ∀ u, AgreeOutside (.lines :: .sck :: settleChanges) u (strobeTimers loops u) := by
    intro u x hx; cases x <;> first | rfl | exact absurd (by decide) hx
  refine AgreeOutside.trans ?_ (timers _)
  rw [settle_eq]
  exact (((timeMarkExpiry_frame s).mono (by decide)).trans ((holdoverExpiry_frame _).mono (by decide))).trans
    ((settleBlocks_frame _).mono (by decide))

theorem timePulse_frame (s : State) : AgreeOutside [.sck, .port] s (timePulse s) := by
  unfold timePulse
  split
  · exact (withSck_frame _ s).mono (by decide)
  · dsimp only
    exact agreeOutside_ite _ (((withSck_frame _ s).mono (by decide)).trans ((latchDetail_frame _ _).mono (by decide)))
      ((withSck_frame _ s).mono (by decide))

theorem replySent_frame (p : Port) (s : State) : AgreeOutside startUpChanges s (replySent p s) :=
  agreeOutside_ite _ (agreeOutside_ite _ (startUp_frame _ s) ((toListen_frame p s).mono (by decide))) (.refl _ s)

/-- The parts of State a command may change. -/
def commandChanges : Instr → List Part
  | .startUp _ | .replySent _ => startUpChanges
  | .siteTimeAdvance | .holdoverTimerExpiry | .timeMarkExpiry => [.sck]
  | .scanStrobe _ => .lines :: .sck :: settleChanges
  | .timePulse => [.sck, .port]
  | .timeMark .. | .timeSet .. => [.port, .sst, .sck]
  | .linkArrival .. | .linkSilence => trafficChanges
  | .acquireComplete _ | .recoverComplete _ => [.cc]
  | .pulseEnd _ => .cc :: formerChanges
  | .pulseAbandoned _ => [.cc, .vb]
  | .halfWindowEnd _ | .upstreamExpiry _ => formerChanges
  | .loopChange _ | .triggerPulseEnd _ => [.vb]
  | .loopFaultEntry _ => [.vb, .port]
  | .closeTimerExpiry _ => sealingChanges
  | .laneMode .. => .port :: .sst :: sealingChanges
  | .probeReading _ | .probeStale _ => [.ptm, .port]
  | .laneTempLost _ => [.ptm]
  | .readTemperatures .. | .readDrift .. | .readRun .. => [.port, .sst, .freeCount]
  | .driftApplicationTaken _ => .sst :: sealingChanges
  | .driftApply .. | .driftReset .. => [.lines, .port, .sst, .dtk]
  | .startRun .. | .acceptPass .. | .rejectPass .. | .endRun .. | .applyRun .. | .releaseEdit .. => [.port, .sst, .rru]
  | .runPendingTimeout | .runArmedTimeout => [.rru]
  | .recordCommit => [.rst, .sea, .port]
  | .portGrantExecute _ => .lines :: .sea :: grantChanges
  | .readRecords .. | .release .. | .setFilter .. | .seek .. | .readStatus .. | .identify .. | .clearAttention ..
  | .setAttentionEnables .. | .restart .. | .unknownRequest .. | .claimEdit .. | .writeSetting .. | .discard .. | .readSetting ..
  | .commit .. => [.port, .sst]
  | .frameCrcError .. | .otherUnitReply .. | .frameNotAddressed .. | .framingError .. | .frameGapTimeout .. | .overrun ..
  | .portArmed _ | .replyStart _ | .listenByteNotArmed .. => [.port]
  | .editTokenExpiry => [.rru, .sst, .port]
  | .programmingStep => [.sst, .sea]
  | .programmingWriteDone _ => [.sst, .port]

/-- Every command completes and leaves every part but those named as it was. -/
theorem exec_frame (i : Instr) (s : State) : ∃ t, exec i s = .next t ∧ AgreeOutside (commandChanges i) s t := by
  have silent : ∀ {act : State → Action} {L : List Part}, (∀ u, AgreeOutside L u (silently (act u))) → (∀ x ∈ L, x ∈ [.port, .sst]) →
      ∀ g len needs p dest code payload, AgreeOutside [.port, .sst] s (takeRequest g len needs act p dest code payload s) :=
    fun h sub _ _ _ _ _ _ _ => (takeRequest_frame h _ _ _ _ _ _ _ s).mono (by
      intro x hx; rcases List.mem_cons.mp hx with rfl | hx
      · decide
      · rcases List.mem_cons.mp hx with rfl | hx
        · decide
        · exact sub x hx)
  cases i
  case startUp cause => exact ⟨_, rfl, startUp_frame cause s⟩
  case siteTimeAdvance => exact ⟨_, rfl, withSck_frame _ s⟩
  case scanStrobe loops => exact ⟨_, rfl, scanStrobe_frame loops s⟩
  case holdoverTimerExpiry => exact ⟨_, rfl, holdoverExpiry_frame s⟩
  case timeMark => exact ⟨_, rfl, takeRequest_frame (actTimeMark_frame _) _ _ _ _ _ _ _ s⟩
  case timeMarkExpiry => exact ⟨_, rfl, timeMarkExpiry_frame s⟩
  case timePulse => exact ⟨_, rfl, timePulse_frame s⟩
  case timeSet => exact ⟨_, rfl, takeRequest_frame (actTimeSet_frame _) _ _ _ _ _ _ _ s⟩
  case linkArrival tagged v => exact ⟨_, rfl, linkArrival_frame tagged v s⟩
  case linkSilence => exact ⟨_, rfl, linkSilence_frame s⟩
  case acquireComplete c => exact ⟨_, rfl, acquireComplete_frame c s⟩
  case recoverComplete c => exact ⟨_, rfl, recoverComplete_frame c s⟩
  case pulseEnd c => exact ⟨_, rfl, pulseEnd_frame c s⟩
  case pulseAbandoned c => exact ⟨_, rfl, pulseAbandoned_frame c s⟩
  case halfWindowEnd c => exact ⟨_, rfl, halfWindowEnd_frame c s⟩
  case upstreamExpiry l => exact ⟨_, rfl, upstreamExpiry_frame l s⟩
  case loopChange l => exact ⟨_, rfl, loopChange_frame l s⟩
  case loopFaultEntry l => exact ⟨_, rfl, loopFaultEntry_frame l s⟩
  case laneMode => exact ⟨_, rfl, takeRequest_frame (actLaneMode_frame _) _ _ _ _ _ _ _ s⟩
  case closeTimerExpiry l => exact ⟨_, rfl, closeTimerExpiry_frame l s⟩
  case triggerPulseEnd l => exact ⟨_, rfl, triggerPulseEnd_frame l s⟩
  case probeReading p => exact ⟨_, rfl, probeReading_frame p s⟩
  case probeStale p => exact ⟨_, rfl, probeStale_frame p s⟩
  case laneTempLost l => exact ⟨_, rfl, laneTempLost_frame l s⟩
  case readTemperatures => exact ⟨_, rfl, takeRequest_frame (fun u => drawn_frame u) _ _ _ _ _ _ _ s⟩
  case driftApplicationTaken l => exact ⟨_, rfl, driftApplicationTaken_frame l s⟩
  case driftApply =>
    exact ⟨_, rfl, ((withKey_frame _ s).mono (M := [.lines, .port, .sst, .dtk]) (by decide)).trans
      ((takeRequest_frame (driftChecked_frame applyProposal_frame _ _) _ _ _ _ _ _ _ _).mono (by decide))⟩
  case driftReset =>
    exact ⟨_, rfl, ((withKey_frame _ s).mono (M := [.lines, .port, .sst, .dtk]) (by decide)).trans
      ((takeRequest_frame (driftChecked_frame resetDrift_frame _ _) _ _ _ _ _ _ _ _).mono (by decide))⟩
  case readDrift => exact ⟨_, rfl, takeRequest_frame (fun u => drawn_frame u) _ _ _ _ _ _ _ s⟩
  case startRun => exact ⟨_, rfl, takeRequest_frame (holderOnly_frame (actStartRun_frame _ _) _) _ _ _ _ _ _ _ s⟩
  case acceptPass => exact ⟨_, rfl, takeRequest_frame (holderOnly_frame (actAcceptPass_frame _) _) _ _ _ _ _ _ _ s⟩
  case rejectPass => exact ⟨_, rfl, takeRequest_frame (holderOnly_frame (actRejectPass_frame _) _) _ _ _ _ _ _ _ s⟩
  case runPendingTimeout => exact ⟨_, rfl, runPendingTimeout_frame s⟩
  case runArmedTimeout => exact ⟨_, rfl, runArmedTimeout_frame s⟩
  case readRun => exact ⟨_, rfl, takeRequest_frame (fun u => drawn_frame u) _ _ _ _ _ _ _ s⟩
  case applyRun =>
    exact ⟨_, rfl, (takeRequest_frame (holderOnly_frame actApplyRun_frame _) _ _ _ _ _ _ _ s).mono (M := [.port, .sst, .rru])
      (by decide)⟩
  case endRun => exact ⟨_, rfl, takeRequest_frame (holderOnly_frame actEndRun_frame _) _ _ _ _ _ _ _ s⟩
  case recordCommit => exact ⟨_, rfl, recordCommitGrant_frame s⟩
  case portGrantExecute key =>
    exact ⟨_, rfl, ((withKey_frame key s).mono (M := .lines :: .sea :: grantChanges) (by decide)).trans
      ((portGrantExecute_frame _).mono (by decide))⟩
  case readRecords => exact ⟨_, rfl, silent (actReadRecords_frame _) (by decide) _ _ _ _ _ _ _⟩
  case release => exact ⟨_, rfl, silent (fun u => .refl [] u) (by decide) _ _ _ _ _ _ _⟩
  case setFilter => exact ⟨_, rfl, silent (actSetFilter_frame _) (by decide) _ _ _ _ _ _ _⟩
  case seek => exact ⟨_, rfl, silent (actSeek_frame _) (by decide) _ _ _ _ _ _ _⟩
  case readStatus => exact ⟨_, rfl, silent (fun u => .refl [] u) (by decide) _ _ _ _ _ _ _⟩
  case identify => exact ⟨_, rfl, silent (fun u => .refl [] u) (by decide) _ _ _ _ _ _ _⟩
  case clearAttention => exact ⟨_, rfl, silent (fun u => withPort_frame _ _ u) (by decide) _ _ _ _ _ _ _⟩
  case setAttentionEnables => exact ⟨_, rfl, silent (fun u => withPort_frame _ _ u) (by decide) _ _ _ _ _ _ _⟩
  case restart => exact ⟨_, rfl, silent (actRestart_frame _) (by decide) _ _ _ _ _ _ _⟩
  case unknownRequest => exact ⟨_, rfl, unknownRequest_frame _ _ _ _ s⟩
  case frameCrcError p frame => exact ⟨_, rfl, frameCrcError_frame p frame s⟩
  case otherUnitReply => exact ⟨_, rfl, otherUnitReply_frame _ _ _ s⟩
  case frameNotAddressed => exact ⟨_, rfl, frameNotAddressed_frame _ _ _ s⟩
  case framingError => exact ⟨_, rfl, framingError_frame _ _ _ s⟩
  case frameGapTimeout => exact ⟨_, rfl, frameGapTimeout_frame _ _ s⟩
  case overrun => exact ⟨_, rfl, overrun_frame _ s⟩
  case portArmed p => exact ⟨_, rfl, portArmed_frame p s⟩
  case replyStart p => exact ⟨_, rfl, replyStart_frame p s⟩
  case replySent p => exact ⟨_, rfl, replySent_frame p s⟩
  case claimEdit => exact ⟨_, rfl, silent (actClaimEdit_frame _) (by decide) _ _ _ _ _ _ _⟩
  case releaseEdit =>
    exact ⟨_, rfl, (takeRequest_frame (holderOnly_frame (fun u => freeToken_frame u) _) _ _ _ _ _ _ _ s).mono
      (M := [.port, .sst, .rru]) (by decide)⟩
  case editTokenExpiry => exact ⟨_, rfl, editTokenExpiry_frame s⟩
  case writeSetting => exact ⟨_, rfl, silent (actWriteSetting_frame _ _) (by decide) _ _ _ _ _ _ _⟩
  case discard => exact ⟨_, rfl, silent (holderOnly_frame (fun u => withWorking_frame _ u) _) (by decide) _ _ _ _ _ _ _⟩
  case readSetting => exact ⟨_, rfl, silent (actReadSetting_frame _ _) (by decide) _ _ _ _ _ _ _⟩
  case commit => exact ⟨_, rfl, silent (holderOnly_frame (fun u => .refl [] u) _) (by decide) _ _ _ _ _ _ _⟩
  case programmingStep => exact ⟨_, rfl, programmingStep_frame s⟩
  case programmingWriteDone b => exact ⟨_, rfl, programmingWriteDone_frame b s⟩
  case listenByteNotArmed => exact ⟨_, rfl, byteNotArmed_frame _ s⟩

/-! ### The clock's figures -/

theorem clockOk_of_frame {L : List Part} {s t : State} (h : AgreeOutside L s t) (k : ClockOk s.sck) (no : Part.sck ∉ L := by decide) :
    ClockOk t.sck := (h .sck no).symm ▸ k

theorem clampInt_bounds {lo hi : Int} (h : lo ≤ hi) (x : Int) : lo ≤ clampInt lo hi x ∧ clampInt lo hi x ≤ hi :=
  ⟨le_max_left _ _, max_le h (min_le_left _ _)⟩

theorem SiteTime.advance_us (t : SiteTime) : t.advance.us < 1000000 := by
  unfold SiteTime.advance
  split
  next below => exact below
  · exact Nat.zero_lt_succ _

theorem siteTimeAdvance_clockOk {s : State} (h : ClockOk s.sck) : ClockOk (siteTimeAdvance s).sck :=
  ⟨SiteTime.advance_us _, h.2⟩

theorem timeMarkExpiry_clockOk {s : State} (h : ClockOk s.sck) : ClockOk (timeMarkExpiry s).sck := by
  unfold timeMarkExpiry
  split
  · obtain ⟨us, lo, hi, unmarked, _, rest⟩ := h
    exact ⟨us, lo, hi, unmarked, nofun, rest⟩
  · exact h

theorem holdoverExpiry_clockOk {s : State} (h : ClockOk s.sck) : ClockOk (holdoverExpiry s).sck := by
  unfold holdoverExpiry
  split <;> exact h

/-- An accepted pulse restarts the holdover timer, consumes the mark and saturates the error. -/
theorem Clock.accept_ok {k : Clock} (h : ClockOk k) (mark : Word32) (e : Int) : ClockOk (k.accept mark e) := by
  obtain ⟨_, lo, hi, unmarked, _⟩ := h
  obtain ⟨elo, ehi⟩ := clampInt_bounds (lo := -2147483648) (hi := 2147483647) (by decide) e
  exact ⟨Nat.zero_lt_succ _, lo, hi, unmarked, nofun, by rintro n ⟨⟩; decide, elo, ehi⟩

theorem timePulse_clockOk {s : State} (h : ClockOk s.sck) : ClockOk (timePulse s).sck := by
  unfold timePulse
  split
  · obtain ⟨us, lo, hi, _, rest⟩ := h
    exact ⟨us, lo, hi, Nat.min_le_left _ _, rest⟩
  · next m _ =>
    have ok := Clock.accept_ok h m.sec (pulseError s.sck.time m.sec)
    dsimp only
    split
    · exact ok
    · obtain ⟨us, _, _, rest⟩ := ok
      obtain ⟨lo, hi⟩ := clampInt_bounds (lo := -200000) (hi := 200000) (by decide)
        (s.sck.trim - 250 * pulseError s.sck.time m.sec)
      exact ⟨us, lo, hi, rest⟩

/-- A mark taken starts its count at 0. -/
theorem actTimeMark_clockOk (payload : List Byte) (s : State) (h : ClockOk s.sck) : ClockOk (silently (actTimeMark payload s)).sck := by
  obtain ⟨us, lo, hi, unmarked, _, rest⟩ := h
  exact ⟨us, lo, hi, unmarked, by rintro m ⟨⟩; exact Nat.zero_le _, rest⟩

theorem actTimeSet_clockOk (payload : List Byte) (s : State) (h : ClockOk s.sck) : ClockOk (silently (actTimeSet payload s)).sck := by
  unfold actTimeSet
  split
  · exact h
  · have inside : field payload 4 4 < 1000000 := by omega
    split
    · exact ⟨inside, h.2⟩
    · exact ⟨inside, h.2⟩
    · exact h
    · exact h

theorem startUp_clockOk (cause : StartCause) (s : State) : ClockOk (startUp cause s).sck := Clock.start_ok

/-- The clock after a strobe: the counts of the mark and of the holdover timer do not pass their last values. -/
theorem Clock.strobe_ok {k : Clock} (h : ClockOk k) : ClockOk k.strobe := by
  obtain ⟨us, lo, hi, unmarked, _, holdover, rest⟩ := h
  refine ⟨us, lo, hi, unmarked, fun m hm => ?_, fun n hn => ?_, rest⟩
  · obtain ⟨m', _, rfl⟩ := Option.map_eq_some_iff.mp hm
    exact Nat.min_le_left _ _
  · unfold Clock.strobe at hn
    dsimp only at hn
    split at hn
    · obtain ⟨n', _, rfl⟩ := Option.map_eq_some_iff.mp hn
      exact Nat.min_le_left _ _
    · exact holdover n hn

theorem settle_clockOk {s : State} (h : ClockOk s.sck) : ClockOk (settle s).sck :=
  clockOk_of_frame (settleBlocks_frame _) (holdoverExpiry_clockOk (timeMarkExpiry_clockOk h))

theorem scanStrobe_clockOk {s : State} (h : ClockOk s.sck) (loops : BitVec 6) : ClockOk (scanStrobe loops s).sck :=
  clockOk_of_frame (strobeRead_frame _) (Clock.strobe_ok (settle_clockOk h))

theorem replySent_clockOk {s : State} (h : ClockOk s.sck) (p : Port) : ClockOk (replySent p s).sck := by
  unfold replySent
  dsimp only
  split
  · split
    · exact startUp_clockOk _ s
    · exact h
  · exact h

/-- A request whose own rule keeps the clock's figures keeps them. -/
theorem takeRequest_clockOk {act : State → Action} (ha : ∀ u, ClockOk u.sck → ClockOk (silently (act u)).sck) {s : State}
    (h : ClockOk s.sck) (g len : Bool) (needs : Privileges → Bool) (p : Port) (dest code : Byte) (payload : List Byte) :
    ClockOk (takeRequest g len needs act p dest code payload s).sck := by
  have checks : ∀ (b : Bool) (u : State), ClockOk u.sck → ClockOk (silently (checked len b act u)).sck := by
    intro b u hu
    unfold checked
    split
    · exact hu
    · split
      · exact hu
      · exact ha u hu
  have told : ∀ a : Action, ClockOk (silently a).sck → ClockOk (settleAction p dest a).sck := fun a =>
    clockOk_of_frame (settleAction_frame p dest a)
  unfold takeRequest
  dsimp only
  repeat' split
  all_goals try exact h
  · exact told _ (checks _ _ (clockOk_of_frame (inHand_frame p dest code payload s) h))
  · exact checks _ (hold p _ s) h
  · exact checks _ (hold p _ s) h

/-- Every command keeps the clock's figures in their ranges: those that may change the clock one by one, the others by their frame. -/
theorem exec_clockOk (i : Instr) {s : State} (h : ClockOk s.sck) : ∃ t, exec i s = .next t ∧ ClockOk t.sck := by
  by_cases changes : Part.sck ∈ commandChanges i
  · cases i
    case startUp cause => exact ⟨_, rfl, startUp_clockOk cause s⟩
    case siteTimeAdvance => exact ⟨_, rfl, siteTimeAdvance_clockOk h⟩
    case scanStrobe loops => exact ⟨_, rfl, scanStrobe_clockOk h loops⟩
    case holdoverTimerExpiry => exact ⟨_, rfl, holdoverExpiry_clockOk h⟩
    case timeMark => exact ⟨_, rfl, takeRequest_clockOk (actTimeMark_clockOk _) h _ _ _ _ _ _ _⟩
    case timeMarkExpiry => exact ⟨_, rfl, timeMarkExpiry_clockOk h⟩
    case timePulse => exact ⟨_, rfl, timePulse_clockOk h⟩
    case timeSet => exact ⟨_, rfl, takeRequest_clockOk (actTimeSet_clockOk _) h _ _ _ _ _ _ _⟩
    case replySent p => exact ⟨_, rfl, replySent_clockOk h p⟩
    all_goals exact absurd changes (by simp only [commandChanges]; decide)
  · obtain ⟨t, e, frame⟩ := exec_frame i s
    exact ⟨t, e, clockOk_of_frame frame h changes⟩

theorem idleStep_clockOk {s : State} (h : ClockOk s.sck) : ClockOk (idleStep s).sck := by
  unfold idleStep
  split
  · exact h
  · split <;> exact h

/-- Settles O56: the command at the front of the queue, or the block on an empty queue, keeps the clock's figures in their ranges. -/
theorem stepKeepsClock : Obligations.StepKeepsClock := by
  intro s t h e
  unfold step at e
  split at e
  next i rest _ =>
    obtain ⟨u, eu, ok⟩ := exec_clockOk i (s := s.withPending rest) h
    obtain rfl : u = t := by simpa using eu.symm.trans e
    exact ok
  next =>
    obtain rfl : idleStep s = t := by simpa using e
    exact idleStep_clockOk h

end Sys2Proof.Machine
end

section
/-! SCAN_STROBE: the counts of strobes (R2, R4, R5, R14, R55, R80, R82, R91, R92, R96, R116, R135, R136, R176) and the read of the buffer
(R15 to R18, R74). -/

namespace Sys2Proof.Machine

/-! ### The read of the buffer -/

/-- The link after a read that found the buffer empty: a slip counted (R16). -/
def Link.starved (k : Link) : Link := { k with slipPending := false, slips := bump 65535 k.slips }

/-- The link after a read that delivers a scan (R16). -/
def Link.read (d : Scan) (k : Link) : Link := { k.consumed with slipPending := false, lastScan := some d }

theorem strobeRead_idle {s : State} (h : s.slr.state ≠ .running) : strobeRead s = s := by simp [strobeRead, h]

theorem strobeRead_starved {s : State} (h : s.slr.state = .running) (ho : s.slr.occ = 0) (hn : s.slr.lastScan = none) :
    strobeRead s = latchDetail .scanLink (s.withSlr s.slr.starved) := by simp [strobeRead, h, ho, hn, Link.starved]

theorem strobeRead_repeats {s : State} {d : Scan} (h : s.slr.state = .running) (ho : s.slr.occ = 0) (hd : s.slr.lastScan = some d) :
    strobeRead s = deliver d true (latchDetail .scanLink (s.withSlr s.slr.starved)) := by
  simp [strobeRead, h, ho, hd, Link.starved]

theorem strobeRead_scan {s : State} {d : Scan} (h : s.slr.state = .running) (ho : 0 < s.slr.occ)
    (hd : s.slr.buf[s.slr.rd]? = some (.scan d)) :
    strobeRead s = deliver d s.slr.slipPending (evalMargin (s.withSlr (s.slr.read d))) := by
  simp [strobeRead, h, Nat.ne_of_gt ho, hd, Link.read]

theorem strobeRead_fill {s : State} (h : s.slr.state = .running) (ho : 0 < s.slr.occ) (hd : s.slr.buf[s.slr.rd]? = some .fill) :
    strobeRead s = evalMargin (s.withSlr s.slr.consumed) := by
  simp [strobeRead, h, Nat.ne_of_gt ho, hd]

theorem strobeRead_gap {s : State} (h : s.slr.state = .running) (ho : 0 < s.slr.occ)
    (hd : ∀ d, s.slr.buf.getD s.slr.rd .empty ≠ .scan d) : strobeRead s = evalMargin (s.withSlr s.slr.consumed) := by
  unfold strobeRead
  dsimp only
  rw [if_pos h, if_neg (by omega)]
  split
  next d e => exact absurd e (hd d)
  next => rfl

/-- A read changes the link but for its silence count, latches details, and may then deliver one scan. -/
theorem strobeRead_cases (s : State) : ∃ v, AgreeOutside [.slr, .port] s v ∧ v.slr.silence = s.slr.silence ∧
    (strobeRead s = v ∨ ∃ d slip, strobeRead s = deliver d slip v) := by
  have latched : ∀ k : Link, AgreeOutside [.slr, .port] s (latchDetail .scanLink (s.withSlr k)) := fun k =>
    ((withSlr_frame k s).mono (by decide)).trans ((latchDetail_frame _ _).mono (by decide))
  have margins : ∀ k : Link, AgreeOutside [.slr, .port] s (evalMargin (s.withSlr k)) := fun k =>
    ((withSlr_frame k s).mono (by decide)).trans (evalMargin_frame _)
  by_cases h : s.slr.state = .running
  · by_cases ho : s.slr.occ = 0
    · refine ⟨_, latched s.slr.starved, rfl, ?_⟩
      cases hd : s.slr.lastScan with
      | none => exact .inl (strobeRead_starved h ho hd)
      | some d => exact .inr ⟨d, true, strobeRead_repeats h ho hd⟩
    · by_cases scan : ∃ d, s.slr.buf.getD s.slr.rd .empty = .scan d
      · obtain ⟨d, hd⟩ := scan
        refine ⟨_, margins (s.slr.read d), by rw [evalMargin_slr]; rfl, .inr ⟨d, s.slr.slipPending, strobeRead_scan h (by omega) ?_⟩⟩
        simpa [List.getD_eq_getElem?_getD, Option.getD_eq_iff] using hd
      · exact ⟨_, margins s.slr.consumed, by rw [evalMargin_slr]; rfl,
          .inl (strobeRead_gap h (by omega) fun d hd => scan ⟨d, hd⟩)⟩
  · exact ⟨s, .refl _ s, rfl, .inl (strobeRead_idle h)⟩

/-! ### Delivery -/

/-- What a delivered scan changes at the monitor: the slot reference, the discard count, and sums and counts of probes. -/
def MonitorScanned (m n : TempMonitor) : Prop :=
  n.lane = m.lane ∧ ∀ p, n.probe.get p = { m.probe.get p with sum := (n.probe.get p).sum, count := (n.probe.get p).count }

theorem MonitorScanned.refl (m : TempMonitor) : MonitorScanned m m := ⟨rfl, fun _ => rfl⟩

theorem temperatureScan_monitor (d : Scan) (slip : Bool) (s : State) : MonitorScanned s.ptm (temperatureScan d slip s).ptm := by
  unfold temperatureScan
  dsimp only
  repeat' split
  · exact ⟨rfl, fun _ => rfl⟩
  · refine ⟨rfl, fun p => ?_⟩
    simp only [State.withPtm_ptm, TempMonitor.takeConversion, PerProbe.get_set]
    split
    next e => rw [e]; rfl
    next => rfl
  · exact ⟨rfl, fun _ => rfl⟩

/-- Two states whose monitors agree in what a conversion meets: the slot reference, the discard count, sums and counts. -/
def SameConversions (s v : State) : Prop :=
  v.ptm.slotRef = s.ptm.slotRef ∧ v.ptm.discards = s.ptm.discards ∧
    ∀ p, (v.ptm.probe.get p).sum = (s.ptm.probe.get p).sum ∧ (v.ptm.probe.get p).count = (s.ptm.probe.get p).count

theorem SameConversions.of_ptm {s v w : State} (h : SameConversions s v) (e : w.ptm = v.ptm) : SameConversions s w := by
  simpa only [SameConversions, e] using h

theorem inOrder_iff (m : TempMonitor) (d : Scan) : m.inOrder d = true ↔ ∀ r, m.slotRef = some r → r.succ = d.slot := by
  unfold TempMonitor.inOrder
  cases m.slotRef <;> simp

theorem temperatureScan_taken (d : Scan) (slip : Bool) (s : State) : ConversionTaken d slip s (temperatureScan d slip s) := by
  have order := inOrder_iff s.ptm d
  unfold ConversionTaken
  dsimp only
  rw [← order]
  unfold temperatureScan
  dsimp only
  cases slip with
  | true => exact ⟨rfl, nofun, nofun, fun _ => ⟨fun _ => ⟨rfl, rfl⟩, rfl⟩⟩
  | false =>
    rw [if_neg (by decide)]
    by_cases h : s.ptm.inOrder d = true
    · rw [if_pos h]
      refine ⟨rfl, fun _ _ => ⟨rfl, fun p => ?_⟩, fun _ no => absurd h no, nofun⟩
      simp only [State.withPtm_ptm, TempMonitor.takeConversion, PerProbe.get_set]
      split
      next e => rw [e]; exact ⟨rfl, rfl⟩
      next => exact ⟨rfl, rfl⟩
    · rw [if_neg h]
      exact ⟨rfl, fun _ yes => absurd yes h, fun _ _ => ⟨fun _ => ⟨rfl, rfl⟩, rfl, fun p => latchDetail_latched _ _ p⟩, nofun⟩

theorem ConversionTaken.of_same {d : Scan} {slip : Bool} {s v t : State} (h : ConversionTaken d slip v t) (e : SameConversions s v) :
    ConversionTaken d slip s t := by
  obtain ⟨ref, discards, probes⟩ := e
  have sums : ∀ p, (v.ptm.probe.get p).sum = (s.ptm.probe.get p).sum := fun p => (probes p).1
  have counts : ∀ p, (v.ptm.probe.get p).count = (s.ptm.probe.get p).count := fun p => (probes p).2
  simpa only [ConversionTaken, ref, discards, sums, counts] using h

theorem temperatureScan_keeps {d : Scan} {slip : Bool} {s : State} {e : Detail} {p : Port} (h : s.latched e p) :
    (temperatureScan d slip s).latched e p := by
  unfold temperatureScan
  dsimp only
  repeat' split
  · exact h
  · exact h
  · exact latchDetail_keeps (s := s.withPtm _) h _

theorem deliver_slr (d : Scan) (slip : Bool) (s : State) : (deliver d slip s).slr = s.slr :=
  (temperatureScan_frame d slip _ .slr (by decide)).trans (conditionersScan_frame d slip _ _ s .slr (by decide))

theorem deliver_keeps {d : Scan} {slip : Bool} {s : State} {e : Detail} {p : Port} (h : s.latched e p) :
    (deliver d slip s).latched e p :=
  temperatureScan_keeps (s := conditionersScan d slip _ _ s) h

theorem deliver_taken (d : Scan) (slip : Bool) (s : State) : ConversionTaken d slip s (deliver d slip s) :=
  (temperatureScan_taken d slip _).of_same ⟨rfl, rfl, fun _ => ⟨rfl, rfl⟩⟩

theorem deliver_conditioner (d : Scan) (slip : Bool) (s : State) (c : Channel) : (deliver d slip s).conditioner c =
    (s.conditioner c).scan (s.laneSet c.lane).fir (s.channelSet c) (getCh d.samples c).toInt (d.status.getLsbD c.index) slip
      s.sck.present s.sck.strobeTime := by
  have cc : (deliver d slip s).cc = (conditionersScan d slip s.sck.present s.sck.strobeTime s).cc :=
    temperatureScan_frame d slip _ .cc (by decide)
  rw [State.conditioner_eq, cc, conditionersScan, State.withCc_cc, getCh_mapCh]
  rfl

theorem deliver_monitor (d : Scan) (slip : Bool) (s : State) : MonitorScanned s.ptm (deliver d slip s).ptm :=
  temperatureScan_monitor d slip (conditionersScan d slip _ _ s)

theorem MarginsLatched.deliver {n : Nat} {s v : State} (h : MarginsLatched n s v) (d : Scan) (slip : Bool) :
    MarginsLatched n s (deliver d slip v) := by
  obtain ⟨m2, m1, low, lowest⟩ := h
  refine ⟨by rw [deliver_slr]; exact m2, by rw [deliver_slr]; exact m1, fun k p => ?_, fun k p => deliver_keeps (lowest k p)⟩
  exact ⟨deliver_keeps (low k p).1, deliver_keeps (low k p).2⟩

/-- What the read of the buffer leaves as it was. -/
theorem strobeRead_kept (s : State) : AgreeOutside [.slr, .cc, .ptm, .port] s (strobeRead s) ∧
    (strobeRead s).slr.silence = s.slr.silence ∧ MonitorScanned s.ptm (strobeRead s).ptm := by
  obtain ⟨v, frame, silence, e | ⟨d, slip, e⟩⟩ := strobeRead_cases s
  all_goals
    have monitor : v.ptm = s.ptm := frame .ptm (by decide)
    rw [e]
  · exact ⟨frame.mono (by decide), silence, monitor ▸ .refl _⟩
  · refine ⟨(frame.mono (by decide)).trans ?_, by rw [deliver_slr, silence], monitor ▸ deliver_monitor d slip v⟩
    exact ((conditionersScan_frame d slip _ _ v).mono (by decide)).trans ((temperatureScan_frame d slip _).mono (by decide))

/-! ### A strobe with nothing due -/

theorem scanStrobe_settled {s : State} (h : settle s = s) (loops : BitVec 6) :
    scanStrobe loops s = strobeRead (strobeTimers loops s) := by rw [scanStrobe, h]

theorem strobeTimers_conversions (loops : BitVec 6) (s : State) : SameConversions s (strobeTimers loops s) := by
  refine ⟨rfl, rfl, fun p => ?_⟩
  simp [strobeTimers, TempMonitor.strobe]

/-- A conditioner handed a scan by the strobe, from the state before it. -/
theorem deliver_handed {s v : State} {loops : BitVec 6} (frame : AgreeOutside [.slr, .port] (strobeTimers loops s) v) (d : Scan)
    (slip : Bool) : ConversionTaken d slip s (deliver d slip v) ∧
      ∀ c, (deliver d slip v).conditioner c = (s.conditioner c).scan (s.laneSet c.lane).fir (s.channelSet c)
        (getCh d.samples c).toInt (d.status.getLsbD c.index) slip s.sck.scan s.sck.time := by
  have cc : v.cc = s.cc := frame .cc (by decide)
  have sck : v.sck = s.sck.strobe := frame .sck (by decide)
  have sst : v.sst = (strobeTimers loops s).sst := frame .sst (by decide)
  have active : v.sst.active = s.sst.active := by rw [sst]; rfl
  refine ⟨(deliver_taken d slip v).of_same ((strobeTimers_conversions loops s).of_ptm (frame .ptm (by decide))), fun c => ?_⟩
  rw [deliver_conditioner]
  simp only [State.conditioner_eq, State.laneSet_eq, State.channelSet_eq, cc, sck, active]
  rfl

/-- What a strobe leaves as it was where it hands on nothing. -/
theorem strobe_quiet {s v : State} {loops : BitVec 6} (frame : AgreeOutside [.slr, .port] (strobeTimers loops s) v) :
    v.cc = s.cc ∧ v.ptm.slotRef = s.ptm.slotRef ∧
      ∀ p, (v.ptm.probe.get p).sum = (s.ptm.probe.get p).sum ∧ (v.ptm.probe.get p).count = (s.ptm.probe.get p).count := by
  obtain ⟨ref, _, probes⟩ := (strobeTimers_conversions loops s).of_ptm (frame .ptm (by decide))
  exact ⟨frame .cc (by decide), ref, probes⟩

theorem margined_frame (k : Link) (s : State) : AgreeOutside [.slr, .port] s (evalMargin (s.withSlr k)) :=
  ((withSlr_frame k s).mono (by decide)).trans (evalMargin_frame _)

theorem starved_frame (k : Link) (s : State) : AgreeOutside [.slr, .port] s (latchDetail .scanLink (s.withSlr k)) :=
  ((withSlr_frame k s).mono (by decide)).trans ((latchDetail_frame _ _).mono (by decide))

/-- Settles O10: by what stands at the read position. -/
theorem strobeDeliversScan : Obligations.StrobeDeliversScan := by
  refine ⟨fun s loops settled idle => ⟨_, rfl, ?_⟩, fun s loops settled running => ⟨_, rfl, ?_⟩⟩
  all_goals rw [scanStrobe_settled settled]
  · rw [strobeRead_idle (s := strobeTimers loops s) idle]
    obtain ⟨ref, discards, probes⟩ := strobeTimers_conversions loops s
    exact ⟨rfl, rfl, rfl, ref, discards, probes⟩
  intro handed quiet consumed
  have running' : (strobeTimers loops s).slr.state = .running := running
  have handed_of : ∀ d slip v, strobeRead (strobeTimers loops s) = deliver d slip v →
      AgreeOutside [.slr, .port] (strobeTimers loops s) v → handed d slip := fun d slip v e frame => by
    simp only [handed]; rw [e]; exact deliver_handed frame d slip
  have quiet_of : ∀ v, strobeRead (strobeTimers loops s) = v → AgreeOutside [.slr, .port] (strobeTimers loops s) v → quiet :=
    fun v e frame => by simp only [quiet]; rw [e]; exact strobe_quiet frame
  refine ⟨fun d full here => ?_, fun full here => ?_, fun empty => ?_⟩
  · have e := strobeRead_scan (s := strobeTimers loops s) running' full here
    have margins := evalMargin_latched (s := s) (u := (strobeTimers loops s).withSlr ((strobeTimers loops s).slr.read d)) rfl rfl
    have slr := congrArg State.slr e
    rw [deliver_slr, evalMargin_slr] at slr
    refine ⟨⟨congrArg Link.buf slr, congrArg Link.rd slr, congrArg Link.occ slr, (congrArg Link.slips slr).trans rfl, ?_⟩,
      handed_of d _ _ e (margined_frame _ _), congrArg Link.slipPending slr, congrArg Link.lastScan slr⟩
    rw [e]; exact margins.deliver d _
  · have e := strobeRead_fill (s := strobeTimers loops s) running' full here
    have margins := evalMargin_latched (s := s) (u := (strobeTimers loops s).withSlr (strobeTimers loops s).slr.consumed) rfl rfl
    have slr := congrArg State.slr e
    rw [evalMargin_slr] at slr
    refine ⟨⟨congrArg Link.buf slr, congrArg Link.rd slr, congrArg Link.occ slr, (congrArg Link.slips slr).trans rfl, ?_⟩,
      quiet_of _ e (margined_frame _ _), (congrArg Link.slipPending slr).trans rfl, (congrArg Link.lastScan slr).trans rfl⟩
    rw [e]; exact margins
  · have latched : ∀ p, (latchDetail .scanLink ((strobeTimers loops s).withSlr (strobeTimers loops s).slr.starved)).latched .scanLink p :=
      latchDetail_latched _ _
    cases hd : s.slr.lastScan with
    | none =>
      have e := strobeRead_starved (s := strobeTimers loops s) running' empty hd
      have rest := quiet_of _ e (starved_frame _ _)
      rw [e]
      exact ⟨rfl, rfl, empty, rfl, rfl, hd, latched, nofun, fun _ => rest⟩
    | some d =>
      have e := strobeRead_repeats (s := strobeTimers loops s) running' empty hd
      have rest := handed_of d true _ e (starved_frame _ _)
      rw [e, deliver_slr]
      exact ⟨rfl, rfl, empty, rfl, rfl, hd, fun p => deliver_keeps (latched p), fun k hk => Option.some.inj hk ▸ rest, nofun⟩

/-! ### The counts of strobes -/

theorem settle_kept (s : State) : AgreeOutside settleChanges (holdoverExpiry (timeMarkExpiry s)) (settle s) := settleBlocks_frame _

/-- The settings items, which the events still due leave as they are: a drift application changes factors and generation alone. -/
theorem takeApplication_settings (l : Lane) (a : Application) (s : State) : (takeApplication l a s).settings = s.settings := by
  have rise : ∀ u : State, (riseNotices (onlyLane l) u).sst = u.sst := fun u => riseNotices_frame _ u .sst (by decide)
  simp [takeApplication, startProgramming, rise]

theorem driftApplicationTaken_settings (l : Lane) (s : State) : (driftApplicationTaken l s).settings = s.settings := by
  unfold driftApplicationTaken
  repeat' split
  · exact takeApplication_settings _ _ s
  · rfl
  · rfl

theorem freeToken_active (s : State) : (freeToken s).sst.active = s.sst.active := by
  have e : (freeToken s).sst = { s.sst with edit := none } := endRunIf_frame _ _ _ .sst (by decide)
  rw [e]

theorem editTokenExpiry_settings (s : State) : (editTokenExpiry s).settings = s.settings := by
  unfold editTokenExpiry
  repeat' split
  · simp [freeToken_active]
  · rfl
  · rfl

theorem settings_of_frame {L : List Part} {s t : State} (h : AgreeOutside L s t) (no : Part.sst ∉ L := by decide) :
    t.settings = s.settings := congrArg (fun x : SettingsStore => x.active.settings) (h .sst no)

theorem settle_settings (s : State) : (settle s).settings = s.settings := by
  have drift : ∀ u, (settleDrift u).settings = u.settings := fun u => by
    simp only [settleDrift, Lane.all, List.foldl_cons, List.foldl_nil, driftApplicationTaken_settings]
  rw [settle_eq, settleBlocks, drift, editTokenExpiry_settings, settings_of_frame (runArmedTimeout_frame _),
    settings_of_frame (runPendingTimeout_frame _), settings_of_frame (settleMonitor_frame _),
    settings_of_frame (agreeOutside_foldl _ (fun s l => settleLane_frame l s) _ _), settings_of_frame (settleHalves_frame _),
    settings_of_frame (settleConditioners_frame _), settings_of_frame (linkSilence_frame _),
    settings_of_frame (holdoverExpiry_frame _), settings_of_frame (timeMarkExpiry_frame _)]

theorem timeMarkExpiry_sck (s : State) :
    (timeMarkExpiry s).sck = { s.sck with mark := s.sck.mark.filter fun m => decide (m.strobes < 12000) } := by
  have same : ∀ m, s.sck.mark = m → s.sck = { s.sck with mark := m } := by rintro _ rfl; rfl
  unfold timeMarkExpiry markStrobes
  cases hm : s.sck.mark with
  | none => exact same _ hm
  | some m =>
    by_cases due : 12000 ≤ m.strobes
    · simp [due, Option.filter]
    · simpa [due, Nat.lt_of_not_le due, Option.filter] using same _ hm

theorem holdoverExpiry_sck (s : State) : (holdoverExpiry s).sck = { s.sck with
    timeState := if s.sck.timeState = .locked ∧ s.sck.holdover.any (fun n => decide (80000 ≤ n)) = true then .holdover
      else s.sck.timeState } := by
  unfold holdoverExpiry holdoverStrobes
  by_cases due : s.sck.timeState = .locked ∧ s.sck.holdover.any (fun n => decide (80000 ≤ n)) = true
  · rw [if_pos due, if_pos (by simpa using due)]; rfl
  · rw [if_neg due, if_neg (by simpa using due)]

/-- The count of a mark that has not expired goes up by one. -/
theorem mark_counted (o : Option TimeMark) :
    ((o.filter fun m => decide (m.strobes < 12000)).map fun m => { m with strobes := bump markStrobes m.strobes }) =
      (o.filter fun m => decide (m.strobes < 12000)).map fun m => (⟨m.sec, m.strobes + 1⟩ : TimeMark) := by
  refine Option.map_congr fun m hm => ?_
  have below : m.strobes < 12000 := by simpa using (Option.mem_filter_iff.mp hm).2
  have : bump markStrobes m.strobes = m.strobes + 1 := by unfold bump markStrobes; omega
  rw [this]

/-- The holdover timer counts in LOCKED, and one that has expired, which ends LOCKED, stays. -/
theorem holdover_counted (q : TimeState) (o : Option Nat) :
    (if (if q = .locked ∧ o.any (fun n => decide (80000 ≤ n)) = true then TimeState.holdover else q) = .locked
      then bumpTimer holdoverStrobes o else o) =
    if q = .locked then o.map (fun n => if n < 80000 then n + 1 else n) else o := by
  by_cases hq : q = .locked
  · cases o with
    | none => simp [bumpTimer]
    | some n =>
      by_cases due : 80000 ≤ n
      · simp [hq, due, Nat.not_lt.mpr due]
      · simp [hq, due, bumpTimer, bump, holdoverStrobes, Nat.lt_of_not_le due]
  · simp [hq]

/-- The clock at a strobe, once an expired mark and holdover timer are taken. -/
theorem settle_strobe_sck (s : State) : (settle s).sck.strobe = { s.sck with
    present := s.sck.scan, scan := s.sck.scan + 1, strobeTime := s.sck.time
    mark := (s.sck.mark.filter fun m => decide (m.strobes < 12000)).map fun m => ⟨m.sec, m.strobes + 1⟩
    timeState := if s.sck.timeState = .locked ∧ s.sck.holdover.any (fun n => decide (80000 ≤ n)) = true then .holdover
      else s.sck.timeState
    holdover := if s.sck.timeState = .locked then s.sck.holdover.map (fun n => if n < 80000 then n + 1 else n)
      else s.sck.holdover } := by
  have kept : (settle s).sck = (holdoverExpiry (timeMarkExpiry s)).sck := settle_kept s .sck (by decide)
  rw [kept, holdoverExpiry_sck, timeMarkExpiry_sck, Clock.strobe]
  dsimp only
  rw [mark_counted, holdover_counted]

/-- A builder's counts at a strobe. -/
theorem builder_counted (loops : BitVec 6) (line : Nat) (b : Builder) : b.strobe (loopSample loops line) = { b with
    pend := if loops.getLsbD (line - 1) = b.present then 0 else min 4 (b.pend + 1)
    presentCount := if b.present then min 960000 (b.presentCount + 1) else b.presentCount
    ctx := { b.ctx with timer := b.ctx.timer.map fun k => { k with count := min k.limit (k.count + 1) } }
    pulse := b.pulse.map fun k => { k with count := min k.limit (k.count + 1) } } := rfl

theorem LaneTemp.strobe_of_counting {a : LaneTemp} (h : a.source = .held) (below : a.held + 1 < 7200000) :
    a.strobe = { a with held := a.held + 1 } := by simp [LaneTemp.strobe, heldStrobes, h, below]

theorem LaneTemp.strobe_of_last {a : LaneTemp} (h : a.source = .held) (last : a.held + 1 = 7200000) :
    a.strobe = { a with lostDue := true } := by
  have no : ¬ a.held + 1 < 7200000 := by omega
  have yes : a.held < 7200000 := by omega
  simp [LaneTemp.strobe, heldStrobes, h, no, yes]

theorem LaneTemp.strobe_of_still {a : LaneTemp} (h : a.source ≠ .held ∨ 7200000 ≤ a.held) : a.strobe = a := by
  rcases h with other | lost
  · simp [LaneTemp.strobe, other]
  · have no : ¬ a.held + 1 < 7200000 := by omega
    simp [LaneTemp.strobe, heldStrobes, no, Nat.not_lt.mpr lost]

/-- Settles O9: the strobe's own counts, which the read of the buffer leaves as they are. -/
theorem strobeNumbersScans : Obligations.StrobeNumbersScans := by
  intro s loops
  obtain ⟨kept, silence, lanes, probes⟩ := strobeRead_kept (strobeTimers loops (settle s))
  have blocks := settle_kept s
  have clock := ((timeMarkExpiry_frame s).mono (M := [.sck]) (by decide)).trans (holdoverExpiry_frame _)
  have settings : (settle s).settings = s.settings := settle_settings s
  have lines : (settle s).lines = s.lines := (blocks .lines (by decide)).trans (clock .lines (by decide))
  refine ⟨_, rfl, ?_, fun l => ?_, ?_, ?_, ?_, ?_, ?_, fun settled => ?_⟩
  · exact (kept .sck (by decide)).trans (settle_strobe_sck s)
  · have axf : (scanStrobe loops s).axf = _ := kept .axf (by decide)
    rw [State.former_eq, axf]
    simp only [strobeTimers, PerLane.get_mapI, AxleFormer.strobe_limit, expiryLimit, State.laneSet, settings]
  · rw [show (scanStrobe loops s).lines = _ from kept .lines (by decide), strobeTimers, lines]
  · exact scanStrobe_frame loops s .pending (by decide)
  · exact scanStrobe_frame loops s .sea (by decide)
  · exact scanStrobe_frame loops s .startCause (by decide)
  · exact scanStrobe_frame loops s .freeCount (by decide)
  intro upTo ticked
  rw [settled] at kept silence lanes probes
  rw [scanStrobe_settled settled]
  have vb : (strobeRead (strobeTimers loops s)).vb = _ := kept .vb (by decide)
  have axf : (strobeRead (strobeTimers loops s)).axf = _ := kept .axf (by decide)
  have laneTemp : ∀ l, (strobeRead (strobeTimers loops s)).laneTemp l = (s.laneTemp l).strobe := fun l => by
    rw [State.laneTemp_eq, lanes]; simp [strobeTimers, TempMonitor.strobe]
  refine ⟨silence, fun l => ?_, fun p => ?_, kept .rru (by decide), kept .sst (by decide), ?_⟩
  · refine ⟨?_, fun still => ?_, fun held below => ?_, fun held last => ?_, ?_⟩
    · rw [State.builder_eq, vb]
      simp only [strobeTimers, PerLane.get_mapI]
      exact builder_counted _ _ _
    · exact (laneTemp l).trans (LaneTemp.strobe_of_still still)
    · exact (laneTemp l).trans (LaneTemp.strobe_of_counting held below)
    · exact (laneTemp l).trans (LaneTemp.strobe_of_last held last)
    · rw [State.former_eq, axf]
      simp [strobeTimers, AxleFormer.strobe]
  · rw [probes p]
    simp [strobeTimers, TempMonitor.strobe, bumpTimer]
    rfl
  · intro x hx
    have same : x ∉ [Part.slr, .cc, .ptm, .port] := fun h => hx (by revert h; cases x <;> decide)
    have k := kept x same
    cases x <;> first | exact k | exact absurd (by decide) hx

end Sys2Proof.Machine
end

section
/-! READ STATUS. Where a field of a reply stands follows from the lengths of the fields before it; the blocks of section 10.5 are laid
out once each, and each block's own fields inside it. -/

namespace Sys2Proof.Machine

/-! ### Fields of joined bytes -/

section fields
variable {a b v : List Byte} {o : Nat}

theorem Carries.append_left (h : Carries a o v) : Carries (a ++ b) o v := by
  unfold Carries at h ⊢
  have fits : v.length ≤ (a.drop o).length := by
    rw [← congrArg List.length h, List.length_take]; exact Nat.min_le_right _ _
  rw [List.drop_append, List.take_append_of_le_length fits, h]

theorem Carries.append_right (h : Carries b o v) : Carries (a ++ b) (a.length + o) v := by
  unfold Carries at h ⊢
  rw [List.drop_append, List.drop_eq_nil_of_le (Nat.le_add_right _ _), List.nil_append, Nat.add_sub_cancel_left, h]

@[simp] theorem carries_self : Carries v 0 v := by simp [Carries]

@[simp] theorem carries_head : Carries (v ++ b) 0 v := carries_self.append_left

theorem carries_skip (h : a.length ≤ o) : Carries (a ++ b) o v ↔ Carries b (o - a.length) v := by
  unfold Carries; rw [List.drop_append, List.drop_eq_nil_of_le h, List.nil_append]

/-- Among blocks of one size, the i-th begins after i of them. -/
theorem Carries.flatMap {α : Type} {f : α → List Byte} {k : Nat} (size : ∀ x, (f x).length = k) {x : α} (h : Carries (f x) o v) :
    ∀ {xs : List α} {i : Nat}, xs[i]? = some x → Carries (xs.flatMap f) (k * i + o) v
  | [], _, e => by simp at e
  | y :: ys, 0, e => by
    obtain rfl : y = x := by simpa using e
    simpa using h.append_left
  | y :: ys, i + 1, e => by
    have next := (Carries.flatMap size h (xs := ys) (i := i) (by simpa using e)).append_right (a := f y)
    rw [size, ← Nat.add_assoc] at next
    simpa [Nat.mul_succ, Nat.add_comm, Nat.add_left_comm] using next

end fields

theorem flatMap_length {α : Type} {f : α → List Byte} {k : Nat} (size : ∀ x, (f x).length = k) (xs : List α) :
    (xs.flatMap f).length = k * xs.length := by
  simp [List.length_flatMap, size, Nat.mul_comm]

/-! ### The blocks of the READ STATUS reply -/

@[simp] theorem clockLinkBytes_length (s : State) : (clockLinkBytes s).length = 29 := by simp [clockLinkBytes, bitBytes]
@[simp] theorem channelBytes_length (c : Conditioner) : (channelBytes c).length = 3 := by simp [channelBytes]
@[simp] theorem formerBytes_length (f : AxleFormer) : (formerBytes f).length = 7 := by simp [formerBytes]
@[simp] theorem laneBytes_length (b : Builder) : (laneBytes b).length = 6 := by simp [laneBytes]
@[simp] theorem portStoreBytes_length (r : RecordStore) (q : Port) : (portStoreBytes r q).length = 12 := by
  simp [portStoreBytes, bitBytes]
@[simp] theorem storeStatusBytes_length (s : State) : (storeStatusBytes s).length = 52 := by
  simp [storeStatusBytes, Port.all]
@[simp] theorem leaseByte_length (s : State) : (leaseByte s).length = 1 := by
  unfold leaseByte; split <;> simp [freeBytes]
@[simp] theorem settingsStatusBytes_length (s : State) : (settingsStatusBytes s).length = 10 := by
  simp [settingsStatusBytes, bitBytes]
@[simp] theorem portStatusBytes_length (q : SitePort) : (portStatusBytes q).length = 12 := by simp [portStatusBytes, bitBytes]

section blocks
variable {p : Port} {s : State} {o : Nat} {v : List Byte}

theorem channels_length : (Channel.all.flatMap fun c => channelBytes (s.conditioner c)).length = 36 :=
  flatMap_length (fun _ => channelBytes_length _) _
theorem formers_length : (Lane.all.flatMap fun l => formerBytes (s.former l)).length = 21 :=
  flatMap_length (fun _ => formerBytes_length _) _
theorem lanes_length : (Lane.all.flatMap fun l => laneBytes (s.builder l)).length = 18 :=
  flatMap_length (fun _ => laneBytes_length _) _

theorem statusPayload_length : (statusPayload p s).length = 182 := by
  simp only [statusPayload, List.length_append, clockLinkBytes_length, channels_length, formers_length, lanes_length, natBytes_length,
    storeStatusBytes_length, settingsStatusBytes_length, portStatusBytes_length]

/-- What an offset inside a block comes to, from the lengths of the blocks before it. -/
theorem Carries.at {a : List Byte} {i j : Nat} (h : Carries a i v) (e : i = j) : Carries a j v := e ▸ h

theorem status_clockLink (h : Carries (clockLinkBytes s) o v) : Carries (statusPayload p s) o v :=
  h.append_left.append_left.append_left.append_left.append_left.append_left.append_left

theorem status_channel (c : Channel) (h : Carries (channelBytes (s.conditioner c)) o v) :
    Carries (statusPayload p s) (29 + 3 * c.index + o) v := by
  have inBlock : Carries (Channel.all.flatMap fun c => channelBytes (s.conditioner c)) (3 * c.index + o) v :=
    h.flatMap (fun _ => channelBytes_length _) (by obtain ⟨l, r, d⟩ := c; cases l <;> cases r <;> cases d <;> rfl)
  exact inBlock.append_right.append_left.append_left.append_left.append_left.append_left.append_left.at
    (by rw [clockLinkBytes_length, ← Nat.add_assoc])

theorem status_former (l : Lane) (h : Carries (formerBytes (s.former l)) o v) :
    Carries (statusPayload p s) (65 + 7 * (l.number - 1) + o) v := by
  have inBlock : Carries (Lane.all.flatMap fun l => formerBytes (s.former l)) (7 * (l.number - 1) + o) v :=
    h.flatMap (fun _ => formerBytes_length _) (by cases l <;> rfl)
  exact inBlock.append_right.append_left.append_left.append_left.append_left.append_left.at
    (by simp only [List.length_append, clockLinkBytes_length, channels_length, ← Nat.add_assoc])

theorem status_lane (l : Lane) (h : Carries (laneBytes (s.builder l)) o v) :
    Carries (statusPayload p s) (86 + 6 * (l.number - 1) + o) v := by
  have inBlock : Carries (Lane.all.flatMap fun l => laneBytes (s.builder l)) (6 * (l.number - 1) + o) v :=
    h.flatMap (fun _ => laneBytes_length _) (by cases l <;> rfl)
  exact inBlock.append_right.append_left.append_left.append_left.append_left.at
    (by simp only [List.length_append, clockLinkBytes_length, channels_length, formers_length, ← Nat.add_assoc])

theorem status_vehicleNumber : Carries (statusPayload p s) 104 (natBytes 4 s.vehicleNumber) :=
  carries_self.append_right.append_left.append_left.append_left.at
    (by simp only [List.length_append, clockLinkBytes_length, channels_length, formers_length, lanes_length])

theorem status_store (h : Carries (storeStatusBytes s) o v) : Carries (statusPayload p s) (108 + o) v :=
  h.append_right.append_left.append_left.at
    (by simp only [List.length_append, clockLinkBytes_length, channels_length, formers_length, lanes_length, natBytes_length])

theorem status_portStore (q : Port) (h : Carries (portStoreBytes s.rst q) o v) :
    Carries (statusPayload p s) (123 + 12 * (q.number - 1) + o) v := by
  have inBlock : Carries (Port.all.flatMap (portStoreBytes s.rst)) (12 * (q.number - 1) + o) v :=
    h.flatMap (portStoreBytes_length s.rst) (by cases q <;> rfl)
  exact (status_store inBlock.append_right.append_left).at (by simp only [List.length_append, natBytes_length]; omega)

theorem status_settings (h : Carries (settingsStatusBytes s) o v) : Carries (statusPayload p s) (160 + o) v :=
  h.append_right.append_left.at (by simp only [List.length_append, clockLinkBytes_length, channels_length, formers_length, lanes_length,
    natBytes_length, storeStatusBytes_length])

theorem status_port (h : Carries (portStatusBytes (s.sitePort p)) o v) : Carries (statusPayload p s) (170 + o) v :=
  h.append_right.at (by simp only [List.length_append, clockLinkBytes_length, channels_length, formers_length, lanes_length,
    natBytes_length, storeStatusBytes_length, settingsStatusBytes_length])

end blocks
/-! ### The fields inside the blocks -/

theorem clockLink_fields (s : State) :
    Carries (clockLinkBytes s) 0 (natBytes 1 s.sck.timeState.code) ∧ Carries (clockLinkBytes s) 1 (natBytes 4 s.sck.time.sec.toNat) ∧
    Carries (clockLinkBytes s) 5 (natBytes 4 s.sck.time.us) ∧ Carries (clockLinkBytes s) 9 (intBytes 4 s.sck.trim) ∧
    Carries (clockLinkBytes s) 13 (intBytes 4 s.sck.lastError) ∧ Carries (clockLinkBytes s) 17 (natBytes 2 s.sck.unmarked) ∧
    Carries (clockLinkBytes s) 19 (natBytes 4 s.sck.scan.toNat) ∧ Carries (clockLinkBytes s) 23 (natBytes 1 s.slr.state.code) ∧
    Carries (clockLinkBytes s) 24 (natBytes 1 s.site.linkMode.code) ∧ Carries (clockLinkBytes s) 25 (natBytes 1 s.slr.occ) ∧
    Carries (clockLinkBytes s) 26 (natBytes 1 (s.slr.margin1.toNat + 2 * s.slr.margin2.toNat)) ∧
    Carries (clockLinkBytes s) 27 (natBytes 2 s.slr.slips) := by
  simp [clockLinkBytes, bitBytes, carries_skip]

theorem channel_fields (c : Conditioner) :
    Carries (channelBytes c) 0 (natBytes 1 c.state.code) ∧ Carries (channelBytes c) 1 (intBytes 2 (c.b64 / 64)) := by
  simp [channelBytes, carries_skip, Conditioner.baseline]

theorem former_fields (f : AxleFormer) :
    Carries (formerBytes f) 0 (natBytes 1 (f.miss.get .u .left)) ∧ Carries (formerBytes f) 1 (natBytes 1 (f.miss.get .u .right)) ∧
    Carries (formerBytes f) 2 (natBytes 1 (f.miss.get .d .left)) ∧ Carries (formerBytes f) 3 (natBytes 1 (f.miss.get .d .right)) ∧
    Carries (formerBytes f) 4 (natBytes 1 (silentSet f)) ∧ Carries (formerBytes f) 5 (natBytes 1 f.upstream.length) ∧
    Carries (formerBytes f) 6 (natBytes 1 f.occupied) := by
  simp [formerBytes, carries_skip, PerHalf.get]

theorem boolByte_eq (b : Bool) : boolByte b = natBytes 1 (if b then 1 else 0) := by cases b <;> rfl

theorem lane_fields (b : Builder) :
    CarriesBool (laneBytes b) 0 b.present ∧ CarriesBool (laneBytes b) 1 b.loopFault ∧ Carries (laneBytes b) 2 (natBytes 1 b.mode.code) ∧
    Carries (laneBytes b) 3 (natBytes 1 b.ctx.state.code) ∧ Carries (laneBytes b) 4 (natBytes 1 b.ctx.axles.length) ∧
    CarriesBool (laneBytes b) 5 b.pulse.isSome := by
  simp [laneBytes, carries_skip, CarriesBool, CarriesNat, boolByte_eq, Builder.line]

theorem store_fields (s : State) :
    Carries (storeStatusBytes s) 0 (natBytes 2 s.rst.records.length) ∧
    Carries (storeStatusBytes s) 2 (natBytes 2 (recordBytes s.rst.records)) ∧
    Carries (storeStatusBytes s) 4 (natBytes 4 (s.rst.oldest.getD 0)) ∧ Carries (storeStatusBytes s) 8 (natBytes 4 s.rst.next) ∧
    Carries (storeStatusBytes s) 12 (natBytes 1 s.rst.queue.length) ∧ Carries (storeStatusBytes s) 13 (natBytes 2 s.rst.dropped) ∧
    Carries (storeStatusBytes s) 51 (natBytes 1 s.site.arbiterMode.code) := by
  have ports : (Port.all.flatMap (portStoreBytes s.rst)).length = 36 := flatMap_length (portStoreBytes_length s.rst) _
  simp [storeStatusBytes, carries_skip, ports, -List.length_flatMap]

theorem portStore_fields (r : RecordStore) (q : Port) :
    Carries (portStoreBytes r q) 0 (natBytes 4 (r.cursor.get q)) ∧ Carries (portStoreBytes r q) 4 (natBytes 2 (r.unreadBytes q)) ∧
    Carries (portStoreBytes r q) 6 (natBytes 1 (r.filter.get q).lanes.toNat) ∧
    Carries (portStoreBytes r q) 7 (natBytes 4 (r.filter.get q).classes.toNat) ∧
    Carries (portStoreBytes r q) 11 (natBytes 1 (r.filter.get q).verdicts.toNat) := by
  simp [portStoreBytes, bitBytes, carries_skip]

theorem settings_fields (s : State) :
    Carries (settingsStatusBytes s) 0 (natBytes 4 s.generation.toNat) ∧
    Carries (settingsStatusBytes s) 4 (natBytes 1 s.sst.settingsState.code) ∧
    Carries (settingsStatusBytes s) 5 (natBytes 1 ((s.sst.edit.map fun e => e.holder.number).getD 0)) ∧
    Carries (settingsStatusBytes s) 6 (leaseByte s) ∧ Carries (settingsStatusBytes s) 7 (natBytes 1 s.sst.prog.step) ∧
    CarriesBool (settingsStatusBytes s) 8 s.sst.storeFault ∧ CarriesBool (settingsStatusBytes s) 9 s.lines.key := by
  simp [settingsStatusBytes, bitBytes, carries_skip, CarriesBool, CarriesNat, boolByte_eq]

theorem port_fields (q : SitePort) :
    Carries (portStatusBytes q) 0 (natBytes 2 q.cond.toNat) ∧ Carries (portStatusBytes q) 2 (natBytes 2 q.enables.toNat) ∧
    Carries (portStatusBytes q) 4 (natBytes 2 q.details.toNat) ∧ Carries (portStatusBytes q) 6 (natBytes 2 q.framingErrors) ∧
    Carries (portStatusBytes q) 8 (natBytes 2 q.crcErrors) ∧ Carries (portStatusBytes q) 10 (natBytes 2 q.overruns) := by
  simp [portStatusBytes, bitBytes, carries_skip]

/-! ### Figures worked out for the reply -/

theorem silent_toNat (f : AxleFormer) (r : Row) (sd : Side) :
    (f.silent r sd).toNat = if 32 ≤ f.miss.get r sd then 1 else 0 := by
  by_cases h : 32 ≤ f.miss.get r sd <;> simp [AxleFormer.silent, silentCount, h]

theorem silentSet_eq (f : AxleFormer) : silentSet f =
    (if 32 ≤ f.miss.get .u .left then 1 else 0) + (if 32 ≤ f.miss.get .u .right then 2 else 0) +
      (if 32 ≤ f.miss.get .d .left then 4 else 0) + if 32 ≤ f.miss.get .d .right then 8 else 0 := by
  simp only [silentSet, silent_toNat, mul_ite, mul_one, mul_zero]

theorem held_length : ∀ xs : List Slot, (xs.filterMap Slot.held).length = (xs.filter (· != .empty)).length
  | [] => rfl
  | x :: xs => by cases x <;> simp [Slot.held, List.filterMap_cons, held_length xs]

theorem filter_lane (l : Lane) (P : Channel → Bool) :
    (Channel.all.filter fun c => decide (c.lane = l) && P c) = l.channels.filter P := by
  have own : (Channel.all.filter fun c => decide (c.lane = l)) = l.channels := by cases l <;> decide
  rw [← own, List.filter_filter]; simp only [Bool.and_comm]

theorem occupied_eq (s : State) (l : Lane) :
    (s.former l).occupied = (Channel.all.filter fun c => decide (c.lane = l) && s.slot c != .empty).length := by
  have slots : l.channels.map s.slot =
      [(s.former l).slots.uLeft, (s.former l).slots.uRight, (s.former l).slots.dLeft, (s.former l).slots.dRight] := by
    cases l <;> rfl
  rw [filter_lane, AxleFormer.occupied, held_length, ← slots, List.filter_map, List.length_map]; rfl

theorem leaseByte_of_edit {s : State} {e : EditSession} (h : s.sst.edit = some e) :
    leaseByte s = natBytes 1 ((960000 - e.lease) / 8000) := by
  unfold leaseByte; rw [h]

/-- The holder of the token is the one before the request. -/
theorem lease_holder {s g : State} {p : Port} (h : g.sst = LeaseRestarted p s.sst) :
    (g.sst.edit.map fun e => e.holder.number) = s.sst.edit.map fun e => e.holder.number := by
  rw [h, LeaseRestarted, Option.map_map]
  congr 1; funext e
  by_cases k : e.holder = p <;> simp [k]

/-- The reporting port's own lease has just begun. -/
theorem lease_reported {s g : State} {p : Port} {e : EditSession} (h : g.sst = LeaseRestarted p s.sst) (he : s.sst.edit = some e) :
    leaseByte g = natBytes 1 ((960000 - if e.holder = p then 0 else e.lease) / 8000) := by
  have edit : g.sst.edit = some (if e.holder = p then { e with lease := 0 } else e) := by rw [h, LeaseRestarted, he]; rfl
  rw [leaseByte_of_edit edit]
  by_cases k : e.holder = p <;> simp [k]

/-! ### The grant -/

/-- READ STATUS in its grant: the state is reported and a draw taken, nothing else. -/
theorem readStatus_taken {s : State} {p : Port} {dest : Byte} (key : Bool) (h : TakenDirect s p dest []) (read : (s.may p).read = true)
    (only : OnlyWaiter s p) :
    exec (.readStatus p dest []) s = .next (settleAction p dest (.wait (inHand p dest 2 [] s))) ∧
    exec (.portGrantExecute key) (settleAction p dest (.wait (inHand p dest 2 [] s))) =
      .next (endGrant (settleAction p dest
        (okWith (statusPayload p (granted p dest 2 [] key s)) (drawn (granted p dest 2 [] key s))))) := by
  refine ⟨?_, ?_⟩
  · exact congrArg Host.Outcome.next (takeRequest_passes h (len := true) (needs := Privileges.read) rfl read _ _ _)
  · exact congrArg Host.Outcome.next (portGrant_onlyWaiter only dest 2 [] key (by decide) rfl)

/-- Settles O40, field by field: the reply is worked out in the granted state, which differs from the one before it in the engine, the
port in hand, the level of the calibration-enable line and the holder's lease. -/
theorem readStatusAnswers : Obligations.ReadStatusAnswers := by
  intro s p dest key taken read only
  obtain ⟨take, grant⟩ := readStatus_taken key taken read only
  set g := granted p dest 2 [] key s with hg
  have same (x : Part) (hx : x ∉ [Part.lines, .sea, .port, .sst]) : Agree s g x := granted_frame p dest 2 [] key s x hx
  have sck : g.sck = s.sck := same .sck (by decide)
  have slr : g.slr = s.slr := same .slr (by decide)
  have cc : g.cc = s.cc := same .cc (by decide)
  have axf : g.axf = s.axf := same .axf (by decide)
  have vb : g.vb = s.vb := same .vb (by decide)
  have vehicleNumber : g.vehicleNumber = s.vehicleNumber := same .vehicleNumber (by decide)
  have rst : g.rst = s.rst := same .rst (by decide)
  have sst : g.sst = LeaseRestarted p s.sst := granted_sst p dest 2 [] key s
  have lines : g.lines = { s.lines with key := key } := granted_lines p dest 2 [] key s
  have own : g.sitePort p = WaitingPort (s.sitePort p) dest 2 [] := by simp [g]
  refine ⟨_, _, statusPayload p g, ⟨take, grant⟩, waits, ?_, ?_, statusPayload_length, ?_, ?_, ?_⟩
  · simp [PortServed, okWith, settleAction, enterReply, endGrant, drawn, g]
  · exact grantAnswered (by simp [drawn, g])
  · have conditioner (c : Channel) : s.conditioner c = g.conditioner c := by simp [cc]
    have former (l : Lane) : s.former l = g.former l := by simp [axf]
    have slot (c : Channel) : s.slot c = g.slot c := by simp [State.slot, axf]
    have builder (l : Lane) : s.builder l = g.builder l := by simp [vb]
    have site : s.site = g.site := by simp [sst]
    have generation : s.generation = g.generation := by simp [sst]
    clear grant hg same
    simp only [← sck, ← slr, conditioner, former, slot, builder, ← vehicleNumber, ← rst, site, generation]
    clear_value g
    obtain ⟨f0, f1, f2, f3, f4, f5, f6, f7, f8, f9, f10, f11⟩ := clockLink_fields g
    obtain ⟨r0, r1, r2, r3, r4, r5, r6⟩ := store_fields g
    obtain ⟨c0, c1, c2, c3, c4, c5, c6⟩ := settings_fields g
    obtain ⟨q0, q1, q2, q3, q4, q5⟩ := port_fields (WaitingPort (s.sitePort p) dest 2 [])
    have port {o : Nat} {v : List Byte} (h : Carries (portStatusBytes (WaitingPort (s.sitePort p) dest 2 [])) o v) :
        Carries (statusPayload p g) (170 + o) v := status_port (own ▸ h)
    have margins : g.slr.margin1.toNat + 2 * g.slr.margin2.toNat =
        (if g.slr.margin1 then 1 else 0) + if g.slr.margin2 then 2 else 0 := by
      cases g.slr.margin1 <;> cases g.slr.margin2 <;> rfl
    rw [margins] at f10
    rw [sst] at c1 c4 c5
    rw [lease_holder sst] at c2
    replace c3 (e : EditSession) (h : s.sst.edit = some e) := lease_reported sst h ▸ c3
    rw [lines] at c6
    refine ⟨status_clockLink f0, status_clockLink f1, status_clockLink f2, status_clockLink f3, status_clockLink f4, status_clockLink f5,
      status_clockLink f6, status_clockLink f7, status_clockLink f8, status_clockLink f9, status_clockLink f10, status_clockLink f11,
      fun c => ?_, fun l => ?_, status_vehicleNumber, (status_store r0).at rfl, (status_store r1).at rfl,
      (status_store r2).at rfl, (status_store r3).at rfl, (status_store r4).at rfl,
      (status_store r5).at rfl, fun q => ?_, (status_store r6).at rfl, (status_settings c0).at rfl,
      (status_settings c1).at rfl, (status_settings c2).at rfl,
      fun e h => (status_settings (c3 e h)).at rfl, (status_settings c4).at rfl, (status_settings c5).at rfl, (status_settings c6).at rfl,
      (port q0).at rfl, (port q1).at rfl, (port q2).at rfl, (port q3).at rfl, (port q4).at rfl,
      (port q5).at rfl⟩
    · obtain ⟨h0, h1⟩ := channel_fields (g.conditioner c)
      exact ⟨status_channel c h0, (status_channel c h1).at (by omega)⟩
    · obtain ⟨m0, m1, m2, m3, m4, m5, m6⟩ := former_fields (g.former l)
      obtain ⟨b0, b1, b2, b3, b4, b5⟩ := lane_fields (g.builder l)
      rw [silentSet_eq] at m4
      rw [occupied_eq] at m6
      exact ⟨status_former l m0, status_former l m1, status_former l m2, status_former l m3, status_former l m4, status_former l m5,
        status_former l m6, status_lane l b0, status_lane l b1, status_lane l b2, status_lane l b3, status_lane l b4, status_lane l b5⟩
    · obtain ⟨h0, h1, h2, h3, h4⟩ := portStore_fields g.rst q
      exact ⟨status_portStore q h0, status_portStore q h1, status_portStore q h2, status_portStore q h3, status_portStore q h4⟩
  · simpa [okWith, settleAction, enterReply, endGrant, drawn] using sst
  · have frame : AgreeOutside [.lines, .sea, .port, .sst, .freeCount] s (drawn g) :=
      ((granted_frame p dest 2 [] key s).mono (by decide)).trans ((drawn_frame g).mono (by decide))
    exact (frame.trans ((settle_frame p dest _ _ _).mono (by decide))).trans ((endGrant_frame _).mono (by decide))

end Sys2Proof.Machine
end

section
/-! What a vehicle builder cannot tell apart, what it never takes back and where it never goes: its work does not depend on the link, the
conditioners, the axle formers and the ports; a condition or detail once latched at a port stands; and no axle, notice or check brings a
vehicle to DEFERRED. -/

namespace Sys2Proof.Machine

/-! ### States alike to a builder -/

/-- States that differ at most in what no vehicle builder reads: the link, the conditioners, the axle formers and the ports. -/
def Alike (s x : State) : Prop := AgreeOutside [.slr, .cc, .axf, .port] s x

theorem Alike.refl (s : State) : Alike s s := AgreeOutside.refl _ _

theorem Alike.trans {s t u : State} (h : Alike s t) (k : Alike t u) : Alike s u := AgreeOutside.trans h k

theorem Alike.symm {s t : State} (h : Alike s t) : Alike t s := by
  intro y hy; have e := h y hy; cases y <;> simp_all [Agree]

/-- A state alike to another, by what may differ. -/
theorem Alike.shape {s x : State} (h : Alike s x) : ∃ k c f q, x = { s with slr := k, cc := c, axf := f, port := q } := by
  have eq (y : Part) (hy : y ∉ [Part.slr, .cc, .axf, .port]) := h y hy
  have e1 := eq .pending (by decide); have e2 := eq .lines (by decide); have e3 := eq .sck (by decide)
  have e4 := eq .vb (by decide); have e5 := eq .vehicleNumber (by decide); have e6 := eq .ptm (by decide)
  have e7 := eq .dtk (by decide); have e8 := eq .rru (by decide); have e9 := eq .rst (by decide)
  have e10 := eq .sea (by decide); have e11 := eq .startCause (by decide); have e12 := eq .sst (by decide)
  have e13 := eq .freeCount (by decide)
  refine ⟨x.slr, x.cc, x.axf, x.port, ?_⟩
  cases x
  simp_all [Agree]

theorem alike_swap (s : State) (k : Link) (c : PerChannel Conditioner) (f : PerLane AxleFormer) (q : PerPort SitePort) :
    Alike s { s with slr := k, cc := c, axf := f, port := q } := by
  intro y hy; cases y <;> simp_all [Agree]

theorem alike_of_frame {L : List Part} {s x : State} (h : AgreeOutside L s x) (sub : ∀ y ∈ L, y ∈ [Part.slr, .cc, .axf, .port]) :
    Alike s x := AgreeOutside.mono h sub

theorem alike_ite {p : Prop} [Decidable p] {a b x y : State} (h : Alike a x) (k : Alike b y) :
    Alike (if p then a else b) (if p then x else y) := by
  by_cases hp : p
  · rwa [if_pos hp, if_pos hp]
  · rwa [if_neg hp, if_neg hp]

section alike
variable {s x : State}

theorem Alike.withBuilder (h : Alike s x) (l : Lane) (b : Builder) : Alike (s.withBuilder l b) (x.withBuilder l b) := by
  obtain ⟨k, c, f, q, rfl⟩ := h.shape
  intro y hy; cases y <;> simp_all [Agree]

theorem Alike.withCtx (h : Alike s x) (l : Lane) (c : Context) : Alike (s.withCtx l c) (x.withCtx l c) := by
  obtain ⟨k, d, f, q, rfl⟩ := h.shape
  exact h.withBuilder l _

theorem Alike.fireTrigger (h : Alike s x) (l : Lane) : Alike (fireTrigger l s) (fireTrigger l x) := by
  obtain ⟨k, c, f, q, rfl⟩ := h.shape
  exact h.withBuilder l _

theorem triggerOnOpen_eq (l : Lane) (s : State) : triggerOnOpen l s =
    if (s.laneSet l).triggerMode = .onOpen ∨ (s.laneSet l).triggerMode = .both then Machine.fireTrigger l s else s := by
  unfold triggerOnOpen; split <;> simp_all

theorem triggerOnVerdict_eq (l : Lane) (v : Verdict) (s : State) : triggerOnVerdict l v s =
    if ((s.laneSet l).triggerMode = .onSuspect ∨ (s.laneSet l).triggerMode = .both) ∧ v = .suspect then Machine.fireTrigger l s
    else s := by
  unfold triggerOnVerdict; cases (s.laneSet l).triggerMode <;> cases v <;> simp

theorem Alike.triggerOnOpen (h : Alike s x) (l : Lane) : Alike (triggerOnOpen l s) (triggerOnOpen l x) := by
  rw [triggerOnOpen_eq, triggerOnOpen_eq]
  obtain ⟨k, c, f, q, rfl⟩ := h.shape
  exact alike_ite (h.fireTrigger l) h

theorem Alike.triggerOnVerdict (h : Alike s x) (l : Lane) (v : Verdict) : Alike (triggerOnVerdict l v s) (triggerOnVerdict l v x) := by
  rw [triggerOnVerdict_eq, triggerOnVerdict_eq]
  obtain ⟨k, c, f, q, rfl⟩ := h.shape
  exact alike_ite (h.fireTrigger l) h

/-- A change of one part that a builder reads, made alike. -/
theorem Alike.withRru (h : Alike s x) (u : RunUnit) : Alike (s.withRru u) (x.withRru u) := by
  obtain ⟨k, c, f, q, rfl⟩ := h.shape
  exact alike_swap (s.withRru u) k c f q

theorem Alike.withRst (h : Alike s x) (r : RecordStore) : Alike (s.withRst r) (x.withRst r) := by
  obtain ⟨k, c, f, q, rfl⟩ := h.shape
  exact alike_swap (s.withRst r) k c f q

theorem Alike.withTracker (h : Alike s x) (l : Lane) (d : DriftTracker) : Alike (s.withTracker l d) (x.withTracker l d) := by
  obtain ⟨k, c, f, q, rfl⟩ := h.shape
  exact alike_swap (s.withTracker l d) k c f q

theorem Alike.withVehicleNumber (h : Alike s x) (n : Nat) : Alike (s.withVehicleNumber n) (x.withVehicleNumber n) := by
  obtain ⟨k, c, f, q, rfl⟩ := h.shape
  exact alike_swap (s.withVehicleNumber n) k c f q

/-- What is latched at the ports, no builder reads. -/
theorem Alike.ports (h : Alike s x) {f g : State → State}
    (hf : ∀ s, AgreeOutside [.port] s (f s)) (hg : ∀ s, AgreeOutside [.port] s (g s)) :
    Alike (f s) (g x) :=
  ((alike_of_frame (hf s) (by decide)).symm.trans h).trans (alike_of_frame (hg x) (by decide))

theorem Alike.latchDetail (h : Alike s x) (d : Detail) : Alike (latchDetail d s) (latchDetail d x) :=
  h.ports (latchDetail_frame d) (latchDetail_frame d)

theorem Alike.latchAt (h : Alike s x) (p : Port) (c : Condition) : Alike (latchAt p c s) (latchAt p c x) :=
  h.ports (f := Machine.latchAt p c) (g := Machine.latchAt p c) (fun s => withPort_frame p _ s) fun s => withPort_frame p _ s

theorem Alike.queueTake (h : Alike s x) (a : Announcement) : Alike (queueTake a s) (queueTake a x) := by
  obtain ⟨k, c, f, q, rfl⟩ := h.shape
  exact alike_ite (h.withRst _) ((h.withRst _).latchDetail .recordDropped)

theorem Alike.runTake (h : Alike s x) (a : Announcement) : Alike (runTake a s) (runTake a x) := by
  obtain ⟨k, c, f, q, rfl⟩ := h.shape
  unfold Machine.runTake; dsimp only
  refine alike_ite (alike_ite ?_ (h.withRru _)) h
  cases s.rru.owner with
  | none => exact h.withRru _
  | some p => exact (h.withRru _).latchAt p _

theorem Alike.evaluateWindow (h : Alike s x) (l : Lane) (w : List Nat) : Alike (evaluateWindow l w s) (evaluateWindow l w x) := by
  obtain ⟨k, c, f, q, rfl⟩ := h.shape
  exact alike_ite (h.withTracker l _)
    (alike_ite (h.withTracker l _) ((h.withTracker l _).ports latchDriftProposal_frame latchDriftProposal_frame))

theorem Alike.driftTake (h : Alike s x) (a : Announcement) : Alike (driftTake a s) (driftTake a x) := by
  obtain ⟨k, c, f, q, rfl⟩ := h.shape
  exact alike_ite (alike_ite (h.withTracker _ _) (h.evaluateWindow _ _)) h

theorem Alike.numberAndAnnounce (h : Alike s x) (a : Announcement) : Alike (numberAndAnnounce a s) (numberAndAnnounce a x) := by
  obtain ⟨k, c, f, q, rfl⟩ := h.shape
  exact (alike_ite (((h.withVehicleNumber _).queueTake a |>.runTake a).driftTake a) (h.latchDetail _)).triggerOnVerdict _ _

theorem Alike.sealInto (h : Alike s x) (l : Lane) (extra : BitVec 24) (next : Context) :
    Alike (sealInto l extra next s) (sealInto l extra next x) := by
  obtain ⟨k, c, f, q, rfl⟩ := h.shape
  exact alike_ite (h.withCtx l _) ((h.withCtx l _).numberAndAnnounce _)

theorem Alike.disturb (h : Alike s x) (l : Lane) (flag : BitVec 24) : Alike (disturb l flag s) (disturb l flag x) := by
  obtain ⟨k, c, f, q, rfl⟩ := h.shape
  exact alike_ite h (h.sealInto l _ _)

end alike

/-! ### An axle at a builder -/

theorem placeAxle_idle {s : State} {l : Lane} (h : (s.ctx l).state = .idle) (a : Axle) :
    placeAxle l a s = openLooplessVehicle l a s := by
  rw [placeAxle]; exact if_pos h

theorem placeAxle_first {s : State} {l : Lane} (h : (s.ctx l).state ≠ .idle) (none : (s.ctx l).axles.getLast? = none) (a : Axle) :
    placeAxle l a s = s.withCtx l (joinedContext s l a 0) := by
  rw [placeAxle]; simp only [if_neg h, none]

theorem placeAxle_next {s : State} {l : Lane} (h : (s.ctx l).state ≠ .idle) {prev : HeldAxle}
    (last : (s.ctx l).axles.getLast? = some prev) (a : Axle) :
    placeAxle l a s =
      if s.site.splitSpacing < axleSpacing prev.axle a then triggerOnOpen l (sealInto l 0 (splitContext s l a) s)
      else if 12 ≤ (s.ctx l).axles.length then sealInto l VFlag.truncated (truncatedContext s l a) s
      else s.withCtx l (joinedContext s l a (axleSpacing prev.axle a)) := by
  rw [placeAxle]; simp only [if_neg h, last]

section alike
variable {s x : State}

theorem Alike.placeAxle (h : Alike s x) (l : Lane) (a : Axle) : Alike (placeAxle l a s) (placeAxle l a x) := by
  obtain ⟨k, c, f, q, rfl⟩ := h.shape
  by_cases idle : (s.ctx l).state = .idle
  · rw [placeAxle_idle idle, placeAxle_idle (s := { s with slr := k, cc := c, axf := f, port := q }) idle]
    exact (h.withCtx l _).triggerOnOpen l
  cases last : (s.ctx l).axles.getLast? with
  | none =>
    rw [placeAxle_first idle last, placeAxle_first (s := { s with slr := k, cc := c, axf := f, port := q }) idle last]
    exact h.withCtx l _
  | some prev =>
    rw [placeAxle_next idle last, placeAxle_next (s := { s with slr := k, cc := c, axf := f, port := q }) idle last]
    exact alike_ite ((h.sealInto l _ _).triggerOnOpen l) (alike_ite (h.sealInto l _ _) (h.withCtx l _))

theorem Alike.riseNotice (h : Alike s x) (affected : Bool) (l : Lane) : Alike (riseNotice affected l s) (riseNotice affected l x) := by
  obtain ⟨k, c, f, q, rfl⟩ := h.shape
  exact alike_ite h (alike_ite (h.disturb l _) (h.withCtx l _))

theorem Alike.restamp (h : Alike s x) (l : Lane) (g : Word32) :
    Alike (s.withCtx l { s.ctx l with stamp := g }) (x.withCtx l { x.ctx l with stamp := g }) := by
  obtain ⟨k, c, f, q, rfl⟩ := h.shape
  exact h.withCtx l _

theorem Alike.takeOlderAxle (h : Alike s x) (l : Lane) (a : Axle) : Alike (takeOlderAxle l a s) (takeOlderAxle l a x) := by
  have first : Alike (if (s.ctx l).axles.isEmpty then s else Machine.disturb l VFlag.settingsChanged s)
      (if (x.ctx l).axles.isEmpty then x else Machine.disturb l VFlag.settingsChanged x) := by
    obtain ⟨k, c, f, q, rfl⟩ := h.shape
    exact alike_ite h (h.disturb l _)
  exact ((first.placeAxle l a).restamp l _).disturb l _

theorem Alike.axleArrival (h : Alike s x) (l : Lane) (a : Axle) : Alike (axleArrival l a s) (axleArrival l a x) := by
  obtain ⟨k, c, f, q, rfl⟩ := h.shape
  exact alike_ite h (alike_ite (h.placeAxle l a) (alike_ite ((h.riseNotice _ l).placeAxle l a) (h.takeOlderAxle l a)))

theorem Alike.arrivals (l : Lane) : ∀ (as : List Axle) {s x : State}, Alike s x → Alike (s.arrivals l as) (x.arrivals l as)
  | [], _, _, h => h
  | a :: as, _, _, h => Alike.arrivals l as (h.axleArrival l a)

end alike

/-! ### What is latched stays -/

/-- At every port, whatever condition or detail stood in one state stands in a later one. -/
def LatchesKept (s t : State) : Prop :=
  ∀ p, (∀ m, hasAny (s.sitePort p).details m = true → hasAny (t.sitePort p).details m = true) ∧
    ∀ m, hasAny (s.sitePort p).cond m = true → hasAny (t.sitePort p).cond m = true

theorem LatchesKept.refl (s : State) : LatchesKept s s := fun _ => ⟨fun _ h => h, fun _ h => h⟩

theorem LatchesKept.trans {s t u : State} (h : LatchesKept s t) (k : LatchesKept t u) : LatchesKept s u :=
  fun p => ⟨fun m x => (k p).1 m ((h p).1 m x), fun m x => (k p).2 m ((h p).2 m x)⟩

/-- Nothing happens at the ports but that conditions and details are latched. -/
def OnlyLatched (s t : State) : Prop :=
  LatchesKept s t ∧ ∀ p, t.sitePort p = { s.sitePort p with cond := (t.sitePort p).cond, details := (t.sitePort p).details }

theorem OnlyLatched.kept {s t : State} (h : OnlyLatched s t) : LatchesKept s t := h.1

theorem OnlyLatched.refl (s : State) : OnlyLatched s s := ⟨.refl s, fun _ => rfl⟩

theorem OnlyLatched.trans {s t u : State} (h : OnlyLatched s t) (k : OnlyLatched t u) : OnlyLatched s u :=
  ⟨h.1.trans k.1, fun p => (k.2 p).trans (by rw [h.2 p])⟩

theorem onlyLatched_of_port {s t : State} (h : t.port = s.port) : OnlyLatched s t := by
  have same (p : Port) : t.sitePort p = s.sitePort p := congrArg (fun q => PerPort.get q p) h
  exact ⟨fun p => by rw [same]; exact LatchesKept.refl s p, fun p => by rw [same]⟩

/-- Whoever does not touch the ports latches nothing. -/
theorem onlyLatched_of_frame {L : List Part} {s t : State} (h : AgreeOutside L s t) (no : Part.port ∉ L) : OnlyLatched s t :=
  onlyLatched_of_port (h .port no)

theorem onlyLatched_ite {p : Prop} [Decidable p] {s a b : State} (h : OnlyLatched s a) (k : OnlyLatched s b) :
    OnlyLatched s (if p then a else b) := by split <;> assumption

theorem onlyLatched_foldl {α : Type} (f : State → α → State) (h : ∀ s a, OnlyLatched s (f s a)) :
    ∀ (xs : List α) (s : State), OnlyLatched s (xs.foldl f s)
  | [], s => .refl s
  | x :: xs, s => (h s x).trans (onlyLatched_foldl f h xs (f s x))

/-- Bits joined to a port's conditions and details. -/
theorem onlyLatched_of_or {s t : State} (h : ∀ p, ∃ d c, t.sitePort p =
    { s.sitePort p with details := (s.sitePort p).details ||| d, cond := (s.sitePort p).cond ||| c }) : OnlyLatched s t := by
  refine ⟨fun p => ?_, fun p => ?_⟩
  · obtain ⟨d, c, e⟩ := h p
    rw [e]; exact ⟨fun _ h => hasAny_or_left h, fun _ h => hasAny_or_left h⟩
  · obtain ⟨d, c, e⟩ := h p
    rw [e]

theorem latchDetail_latches (d : Detail) (s : State) : OnlyLatched s (latchDetail d s) :=
  onlyLatched_of_or fun p => ⟨d.mask, Condition.siteAlarm.mask, by simp [latchDetail, SitePort.latchDetail]⟩

theorem latchDetailIf_latches (b : Bool) (d : Detail) (s : State) : OnlyLatched s (latchDetailIf b d s) :=
  onlyLatched_ite (latchDetail_latches d s) (.refl s)

theorem latchAt_latches (p : Port) (c : Condition) (s : State) : OnlyLatched s (latchAt p c s) := by
  refine onlyLatched_of_or fun q => ?_
  by_cases e : q = p
  · exact ⟨0, c.mask, by simp [latchAt, SitePort.latch, e]⟩
  · exact ⟨0, 0, by simp [latchAt, e]⟩

theorem latchDriftProposal_latches (s : State) : OnlyLatched s (latchDriftProposal s) := by
  refine onlyLatched_of_or fun p => ?_
  by_cases e : (s.portSet p).privileges.edit = true
  · exact ⟨0, Condition.driftProposal.mask, by simp_all [latchDriftProposal, SitePort.latch]⟩
  · exact ⟨0, 0, by simp_all [latchDriftProposal]⟩

section latches
variable (a : Announcement) (l : Lane) (s : State)

theorem queueTake_latches : OnlyLatched s (queueTake a s) :=
  onlyLatched_ite (onlyLatched_of_port rfl) ((onlyLatched_of_port rfl).trans (latchDetail_latches _ _))

theorem runTake_latches : OnlyLatched s (runTake a s) := by
  unfold runTake
  refine onlyLatched_ite (onlyLatched_ite ?_ (onlyLatched_of_port rfl)) (.refl s)
  split
  · exact (onlyLatched_of_port rfl).trans (latchAt_latches _ _ _)
  · exact onlyLatched_of_port rfl

theorem evaluateWindow_latches (w : List Nat) : OnlyLatched s (evaluateWindow l w s) :=
  onlyLatched_ite (onlyLatched_of_port rfl)
    (onlyLatched_ite (onlyLatched_of_port rfl) ((onlyLatched_of_port rfl).trans (latchDriftProposal_latches _)))

theorem driftTake_latches : OnlyLatched s (driftTake a s) :=
  onlyLatched_ite (onlyLatched_ite (onlyLatched_of_port rfl) (evaluateWindow_latches _ _ _)) (.refl s)

theorem announce_latches : OnlyLatched s (announce a s) :=
  ((queueTake_latches a s).trans (runTake_latches a _)).trans (driftTake_latches a _)

theorem triggerOnOpen_latches : OnlyLatched s (triggerOnOpen l s) := onlyLatched_of_frame (triggerOnOpen_frame l s) (by decide)

theorem triggerOnVerdict_latches (v : Verdict) : OnlyLatched s (triggerOnVerdict l v s) :=
  onlyLatched_of_frame (triggerOnVerdict_frame l v s) (by decide)

theorem withVehicleNumber_latches (n : Nat) : OnlyLatched s (s.withVehicleNumber n) := onlyLatched_of_port rfl

theorem withCtx_latches (c : Context) : OnlyLatched s (s.withCtx l c) := onlyLatched_of_port rfl

theorem numberAndAnnounce_latches : OnlyLatched s (numberAndAnnounce a s) :=
  (onlyLatched_ite ((withVehicleNumber_latches s _).trans (announce_latches a _)) (latchDetail_latches _ s)).trans
    (triggerOnVerdict_latches _ _ _)

theorem sealInto_latches (extra : BitVec 24) (next : Context) : OnlyLatched s (sealInto l extra next s) :=
  onlyLatched_ite (withCtx_latches l s _) ((withCtx_latches l s next).trans (numberAndAnnounce_latches _ _))

theorem disturb_latches (flag : BitVec 24) : OnlyLatched s (disturb l flag s) :=
  onlyLatched_ite (.refl s) (sealInto_latches l s _ _)

theorem placeAxle_latches (x : Axle) : OnlyLatched s (placeAxle l x s) := by
  by_cases idle : (s.ctx l).state = .idle
  · rw [placeAxle_idle idle]
    exact onlyLatched_of_frame (openLooplessVehicle_frame l x s) (by decide)
  cases last : (s.ctx l).axles.getLast? with
  | none => rw [placeAxle_first idle last]; exact onlyLatched_of_port rfl
  | some prev =>
    rw [placeAxle_next idle last]
    exact onlyLatched_ite ((sealInto_latches l s _ _).trans (triggerOnOpen_latches l _))
      (onlyLatched_ite (sealInto_latches l s _ _) (onlyLatched_of_port rfl))

theorem riseNotice_latches (affected : Bool) : OnlyLatched s (riseNotice affected l s) :=
  onlyLatched_ite (.refl s) (onlyLatched_ite (disturb_latches l s _) (onlyLatched_of_port rfl))

theorem takeOlderAxle_latches (x : Axle) : OnlyLatched s (takeOlderAxle l x s) := by
  unfold takeOlderAxle; dsimp only
  have first : OnlyLatched s (if (s.ctx l).axles.isEmpty then s else disturb l VFlag.settingsChanged s) :=
    onlyLatched_ite (.refl s) (disturb_latches l s _)
  exact ((first.trans (placeAxle_latches l _ x)).trans (withCtx_latches l _ _)).trans (disturb_latches l _ _)

theorem axleArrival_latches (x : Axle) : OnlyLatched s (axleArrival l x s) :=
  onlyLatched_ite (.refl s) (onlyLatched_ite (placeAxle_latches l s x)
    (onlyLatched_ite ((riseNotice_latches l s _).trans (placeAxle_latches l _ x)) (takeOlderAxle_latches l s x)))

theorem deferCheck_latches : OnlyLatched s (deferCheck l s) := onlyLatched_ite (sealInto_latches l s _ _) (.refl s)

theorem deferChecks_latches (before : State) : OnlyLatched s (deferChecks before s) :=
  onlyLatched_foldl _ (fun s l => onlyLatched_ite (.refl s) (deferCheck_latches l s)) _ s

end latches

/-! ### The context a sealing leaves -/

theorem triggerOnVerdict_ctx (l k : Lane) (v : Verdict) (s : State) : (triggerOnVerdict l v s).ctx k = s.ctx k := by
  rw [triggerOnVerdict_eq]; split
  · by_cases e : k = l <;> simp [fireTrigger, e]
  · rfl

theorem triggerOnOpen_ctx (l k : Lane) (s : State) : (triggerOnOpen l s).ctx k = s.ctx k := by
  rw [triggerOnOpen_eq]; split
  · by_cases e : k = l <;> simp [fireTrigger, e]
  · rfl

theorem announce_vb (a : Announcement) (s : State) : (announce a s).vb = s.vb := by
  have q : (queueTake a s).vb = s.vb := queueTake_frame a s .vb (by decide)
  have r : (runTake a (queueTake a s)).vb = (queueTake a s).vb := runTake_frame a _ .vb (by decide)
  have d : (driftTake a (runTake a (queueTake a s))).vb = (runTake a (queueTake a s)).vb := driftTake_frame a _ .vb (by decide)
  exact d.trans (r.trans q)

/-- A vehicle is numbered and announced without a change of any context. -/
theorem numberAndAnnounce_ctx (a : Announcement) (s : State) (k : Lane) : (numberAndAnnounce a s).ctx k = s.ctx k := by
  rw [numberAndAnnounce, triggerOnVerdict_ctx]; split
  · exact congrArg (fun vb => (PerLane.get vb k).ctx) (announce_vb a _)
  · rfl

theorem withCtx_ctx (l k : Lane) (c : Context) (s : State) : (s.withCtx l c).ctx k = if k = l then c else s.ctx k := by
  by_cases e : k = l <;> simp [e]

theorem sealInto_ctx (l k : Lane) (extra : BitVec 24) (next : Context) (s : State) :
    (sealInto l extra next s).ctx k = if k = l then (if (s.ctx l).dropped then .idle else next) else s.ctx k := by
  unfold sealInto; dsimp only
  split
  · rw [withCtx_ctx]
  · rw [numberAndAnnounce_ctx, withCtx_ctx]

/-! ### Nothing here defers a vehicle -/

/-- A lane that is DEFERRED in the later state was so in the earlier one. -/
def Undeferred (s t : State) : Prop := ∀ k, (t.ctx k).state = .deferred → (s.ctx k).state = .deferred

theorem Undeferred.refl (s : State) : Undeferred s s := fun _ h => h
theorem Undeferred.trans {s t u : State} (h : Undeferred s t) (k : Undeferred t u) : Undeferred s u := fun l x => h l (k l x)

theorem undeferred_ite {p : Prop} [Decidable p] {s a b : State} (h : Undeferred s a) (k : Undeferred s b) :
    Undeferred s (if p then a else b) := by split <;> assumption

theorem undeferred_foldl {α : Type} (f : State → α → State) (h : ∀ s a, Undeferred s (f s a)) :
    ∀ (xs : List α) (s : State), Undeferred s (xs.foldl f s)
  | [], s => .refl s
  | x :: xs, s => (h s x).trans (undeferred_foldl f h xs (f s x))

theorem undeferred_of_vb {s t : State} (h : t.vb = s.vb) : Undeferred s t := fun k e => by rwa [State.ctx, State.builder, h] at e

/-- A context that is DEFERRED only where the present one is. -/
theorem withCtx_undeferred {l : Lane} {c : Context} {s : State} (h : c.state = .deferred → (s.ctx l).state = .deferred) :
    Undeferred s (s.withCtx l c) := by
  intro k e; rw [withCtx_ctx] at e
  by_cases hk : k = l
  · subst hk; rw [if_pos rfl] at e; exact h e
  · rwa [if_neg hk] at e

theorem sealInto_undeferred {l : Lane} {extra : BitVec 24} {next : Context} {s : State}
    (h : next.state = .deferred → (s.ctx l).state = .deferred) : Undeferred s (sealInto l extra next s) := by
  intro k e; rw [sealInto_ctx] at e
  by_cases hk : k = l
  · subst hk
    rw [if_pos rfl] at e
    by_cases d : (s.ctx k).dropped = true
    · rw [if_pos d] at e; exact CtxState.noConfusion e
    · rw [if_neg d] at e; exact h e
  · rwa [if_neg hk] at e

section undeferred
variable (l : Lane) (s : State)

theorem disturb_undeferred (flag : BitVec 24) : Undeferred s (disturb l flag s) :=
  undeferred_ite (.refl s) (sealInto_undeferred fun h => h)

theorem axleTimer_undeferred {c : Context} (h : (axleTimer s c).state = .deferred) : c.state = .deferred := by
  unfold axleTimer at h; split at h
  · exact CtxState.noConfusion h
  · exact CtxState.noConfusion h
  · exact h

theorem triggerOnOpen_undeferred : Undeferred s (triggerOnOpen l s) := fun k h => by rwa [triggerOnOpen_ctx] at h

theorem placeAxle_undeferred (a : Axle) : Undeferred s (placeAxle l a s) := by
  by_cases idle : (s.ctx l).state = .idle
  · rw [placeAxle_idle idle]
    exact (withCtx_undeferred fun h => CtxState.noConfusion h).trans (triggerOnOpen_undeferred l _)
  have joined (n : Nat) : (joinedContext s l a n).state = .deferred → (s.ctx l).state = .deferred := axleTimer_undeferred s
  have truncated : (truncatedContext s l a).state = .deferred → (s.ctx l).state = .deferred := axleTimer_undeferred s
  have split : (splitContext s l a).state ≠ .deferred := by
    unfold splitContext; split <;> exact fun h => CtxState.noConfusion h
  cases last : (s.ctx l).axles.getLast? with
  | none => rw [placeAxle_first idle last]; exact withCtx_undeferred (joined 0)
  | some prev =>
    rw [placeAxle_next idle last]
    exact undeferred_ite ((sealInto_undeferred fun h => absurd h split).trans (triggerOnOpen_undeferred l _))
      (undeferred_ite (sealInto_undeferred truncated) (withCtx_undeferred (joined _)))

theorem restamp_undeferred (g : Word32) : Undeferred s (s.withCtx l { s.ctx l with stamp := g }) := withCtx_undeferred fun h => h

theorem riseNotice_undeferred (affected : Bool) : Undeferred s (riseNotice affected l s) :=
  undeferred_ite (.refl s) (undeferred_ite (disturb_undeferred l s _) (restamp_undeferred l s _))

theorem takeOlderAxle_undeferred (a : Axle) : Undeferred s (takeOlderAxle l a s) := by
  unfold takeOlderAxle; dsimp only
  have first : Undeferred s (if (s.ctx l).axles.isEmpty then s else disturb l VFlag.settingsChanged s) :=
    undeferred_ite (.refl s) (disturb_undeferred l s _)
  exact ((first.trans (placeAxle_undeferred l _ a)).trans (restamp_undeferred l _ _)).trans (disturb_undeferred l _ _)

theorem axleArrival_undeferred (a : Axle) : Undeferred s (axleArrival l a s) :=
  undeferred_ite (.refl s) (undeferred_ite (placeAxle_undeferred l s a)
    (undeferred_ite ((riseNotice_undeferred l s _).trans (placeAxle_undeferred l _ a)) (takeOlderAxle_undeferred l s a)))

theorem deferCheck_undeferred : Undeferred s (deferCheck l s) :=
  undeferred_ite (sealInto_undeferred fun h => CtxState.noConfusion h) (.refl s)

theorem deferChecks_undeferred (before : State) : Undeferred s (deferChecks before s) :=
  undeferred_foldl _ (fun s l => undeferred_ite (.refl s) (deferCheck_undeferred l s)) _ s

end undeferred

end Sys2Proof.Machine
end

section
/-! A vehicle sealed: its record, its number and its place in the queue (R112 to R117), and a vehicle disturbed, sealed with the flag of
the disturbance and followed by its continuation (R102 to R104). -/

namespace Sys2Proof.Machine

/-! ### The record of a sealing -/

theorem groupsAfter_length (limit : Nat) : ∀ (xs : List HeldAxle) (n : Nat), (groupsAfter limit n xs).length = xs.length
  | [], _ => rfl
  | _ :: xs, _ => congrArg (· + 1) (groupsAfter_length limit xs _)

theorem groupNumbers_length (limit : Nat) : ∀ xs : List HeldAxle, (groupNumbers limit xs).length = xs.length
  | [] => rfl
  | _ :: xs => congrArg (· + 1) (groupsAfter_length limit xs 1)

/-- Every bit of one set is in another. -/
def Within {w : Nat} (a b : BitVec w) : Prop := b &&& a = a

theorem within_or_left {w : Nat} (a b : BitVec w) : Within a (a ||| b) := by
  unfold Within; ext i; simp; exact fun h => .inl h

theorem Within.or {w : Nat} {a b : BitVec w} (h : Within a b) (c : BitVec w) : Within a (b ||| c) := by
  unfold Within at h ⊢
  rw [BitVec.and_or_distrib_right, h]; ext i; simp

theorem Within.foldl_or {α : Type} {w : Nat} {a : BitVec w} (f : α → BitVec w) :
    ∀ (xs : List α) {b : BitVec w}, Within a b → Within a (xs.foldl (fun x y => x ||| f y) b)
  | [], _, h => h
  | x :: xs, _, h => Within.foldl_or f xs (h.or (f x))

theorem Within.of_or {w : Nat} {a b c : BitVec w} (h : Within (a ||| b) c) : Within b c := by
  unfold Within at h ⊢
  have absorb : (a ||| b) &&& b = b := by ext i; simp; exact fun h => .inr h
  calc c &&& b = c &&& ((a ||| b) &&& b) := by rw [absorb]
    _ = (c &&& (a ||| b)) &&& b := (BitVec.and_assoc _ _ _).symm
    _ = b := by rw [h, absorb]

theorem Within.hasAny {w : Nat} {a b : BitVec w} (h : Within a b) (some : a ≠ 0) : hasAny b a = true := by
  unfold Within at h
  rw [Machine.hasAny, h]; simpa using some

theorem sealedFlags_within (s : State) (l : Lane) (c : Context) (extra : BitVec 24) :
    Within (c.flags ||| extra) (sealedFlags s l c extra) :=
  .foldl_or _ _ ((((within_or_left _ _).or _).or _).or _)

/-- The record of a sealing is its vehicle's, whatever its number (R117). -/
theorem sealRecord_records (s : State) (l : Lane) (c : Context) (extra : BitVec 24) (n : Nat) :
    RecordsVehicle extra c l (sealRecord s l c extra n) := by
  refine ⟨rfl, rfl, sealedFlags_within s l c extra, ?_⟩
  have zip := List.map_fst_zip (l₁ := c.axles) (l₂ := groupNumbers s.settings.site.groupSpacing c.axles)
    (groupNumbers_length _ _).ge
  calc (sealRecord s l c extra n).axles.map (fun a => (a.left, a.right, a.spacing, a.flags))
      = ((c.axles.zip (groupNumbers s.settings.site.groupSpacing c.axles)).map Prod.fst).map
          fun h => (h.axle.left, h.axle.right, h.spacing, h.axle.flags) := by simp [sealRecord]
    _ = _ := by rw [zip]

/-! ### The number and the queue -/

theorem announce_rst (a : Announcement) (s : State) : (announce a s).rst = (queueTake a s).rst := by
  have r : (runTake a (queueTake a s)).rst = (queueTake a s).rst := runTake_frame a _ .rst (by decide)
  have d : (driftTake a (runTake a (queueTake a s))).rst = (runTake a (queueTake a s)).rst := driftTake_frame a _ .rst (by decide)
  exact d.trans r

theorem announce_vehicleNumber (a : Announcement) (s : State) : (announce a s).vehicleNumber = s.vehicleNumber := by
  have q : (queueTake a s).vehicleNumber = s.vehicleNumber := queueTake_frame a s .vehicleNumber (by decide)
  have r : (runTake a (queueTake a s)).vehicleNumber = (queueTake a s).vehicleNumber := runTake_frame a _ .vehicleNumber (by decide)
  have d : (driftTake a (runTake a (queueTake a s))).vehicleNumber = (runTake a (queueTake a s)).vehicleNumber :=
    driftTake_frame a _ .vehicleNumber (by decide)
  exact d.trans (r.trans q)

section numbering
variable {s : State} {a : Announcement}

theorem numbered (h : s.vehicleNumber < 4294967295) : numberAndAnnounce a s =
    triggerOnVerdict a.record.lane a.record.verdict (announce a (s.withVehicleNumber (s.vehicleNumber + 1))) := by
  rw [numberAndAnnounce]; exact congrArg _ (if_pos h)

theorem unnumbered (h : 4294967295 ≤ s.vehicleNumber) : numberAndAnnounce a s =
    triggerOnVerdict a.record.lane a.record.verdict (latchDetail .recordDropped s) := by
  rw [numberAndAnnounce]; exact congrArg _ (if_neg (Nat.not_lt.mpr h))

theorem queueTake_room (h : s.rst.queue.length < 4) : (queueTake a s).rst = { s.rst with queue := s.rst.queue ++ [a.record] } := by
  rw [queueTake, if_pos h]; rfl

theorem queueTake_full (h : 4 ≤ s.rst.queue.length) :
    (queueTake a s).rst = { s.rst with dropped := min 65535 (s.rst.dropped + 1) } ∧
      ∀ p, (queueTake a s).latched .recordDropped p := by
  rw [queueTake, if_neg (Nat.not_lt.mpr h)]
  exact ⟨rfl, fun p => latchDetail_latched _ _ p⟩

theorem triggerOnVerdict_rst (l : Lane) (v : Verdict) (s : State) : (triggerOnVerdict l v s).rst = s.rst :=
  triggerOnVerdict_frame l v s .rst (by decide)

theorem triggerOnVerdict_vehicleNumber (l : Lane) (v : Verdict) (s : State) :
    (triggerOnVerdict l v s).vehicleNumber = s.vehicleNumber := triggerOnVerdict_frame l v s .vehicleNumber (by decide)

end numbering

/-- A vehicle that is numbered and announced takes the next number and its place in the queue (R115, R117, R144). -/
theorem numberAndAnnounce_sealed {flag : BitVec 24} {c : Context} {l : Lane} {s : State} {a : Announcement}
    (number : a.record.number = s.vehicleNumber) (records : RecordsVehicle flag c l a.record) :
    SealedNext flag c l s (numberAndAnnounce a s) := by
  refine ⟨fun h => ?_, fun h => ?_, fun h p => ?_⟩
  · rw [numbered h, triggerOnVerdict_vehicleNumber, announce_vehicleNumber, triggerOnVerdict_rst, announce_rst]
    exact ⟨rfl, fun room => ⟨a.record, queueTake_room room, number, records⟩, fun full =>
      (queueTake_full (a := a) (s := s.withVehicleNumber (s.vehicleNumber + 1)) full).1⟩
  · rw [unnumbered h, triggerOnVerdict_vehicleNumber, triggerOnVerdict_rst]
    exact ⟨rfl, rfl⟩
  · by_cases n : s.vehicleNumber < 4294967295
    · have full : 4 ≤ (s.withVehicleNumber (s.vehicleNumber + 1)).rst.queue.length := h.resolve_left (Nat.not_le.mpr n)
      rw [numbered n]
      exact ((((runTake_latches a _).trans (driftTake_latches a _)).trans (triggerOnVerdict_latches _ _ _)).kept p).1 _
        ((queueTake_full full).2 p)
    · rw [unnumbered (Nat.not_lt.mp n)]
      exact ((triggerOnVerdict_latches _ _ _).kept p).1 _ (latchDetail_latched _ _ p)

theorem sealInto_dropped {l : Lane} {s : State} (h : (s.ctx l).dropped = true) (extra : BitVec 24) (next : Context) :
    sealInto l extra next s = s.withCtx l .idle := by rw [sealInto]; exact if_pos h

theorem sealInto_sealed {l : Lane} {s : State} (h : ¬ (s.ctx l).dropped = true) (extra : BitVec 24) (next : Context) :
    SealedNext extra (s.ctx l) l s (sealInto l extra next s) := by
  rw [sealInto]; simp only [if_neg h]
  exact numberAndAnnounce_sealed (s := s.withCtx l next) rfl (sealRecord_records s l _ extra _)

theorem dropped_iff (c : Context) : c.dropped = true ↔ c.cont = true ∧ c.axles = [] := by simp [Context.dropped]

/-! ### The other lanes, and the rest of the builder -/

theorem triggerOnVerdict_builder (l k : Lane) (v : Verdict) (s : State) :
    (triggerOnVerdict l v s).builder k = { s.builder k with pulse := ((triggerOnVerdict l v s).builder k).pulse } := by
  rw [triggerOnVerdict_eq]; split
  · by_cases e : k = l <;> simp [fireTrigger, e]
  · rfl

theorem triggerOnVerdict_other {l k : Lane} (h : k ≠ l) (v : Verdict) (s : State) : (triggerOnVerdict l v s).builder k = s.builder k := by
  rw [triggerOnVerdict_eq]; split
  · simp [fireTrigger, h]
  · rfl

theorem triggerOnVerdict_quiet {l : Lane} {s : State} (h : (s.laneSet l).triggerMode = .off ∨ (s.laneSet l).triggerMode = .onOpen)
    (v : Verdict) : triggerOnVerdict l v s = s := by
  rw [triggerOnVerdict_eq, if_neg]
  rcases h with e | e <;> rw [e] <;> exact fun h => h.1.elim (fun x => TriggerMode.noConfusion x) fun x => TriggerMode.noConfusion x

/-- A sealing, all but the trigger: the builders have the next context alone. -/
theorem sealInto_shape {l : Lane} {s : State} (h : ¬ (s.ctx l).dropped = true) (extra : BitVec 24) (next : Context) :
    ∃ (u : State) (v : Verdict), u.vb = (s.withCtx l next).vb ∧ u.sst = s.sst ∧ sealInto l extra next s = triggerOnVerdict l v u := by
  generalize ha : announcementOf s l (s.ctx l) extra s.vehicleNumber = a
  have lane : a.record.lane = l := by rw [← ha]; rfl
  have e : sealInto l extra next s = numberAndAnnounce a (s.withCtx l next) := by rw [sealInto, ← ha]; exact if_neg h
  rw [e]
  by_cases n : (s.withCtx l next).vehicleNumber < 4294967295
  · rw [numbered n, lane]
    exact ⟨announce a ((s.withCtx l next).withVehicleNumber ((s.withCtx l next).vehicleNumber + 1)), _, announce_vb a _,
      announce_frame a ((s.withCtx l next).withVehicleNumber _) .sst (by decide), rfl⟩
  · rw [unnumbered (Nat.not_lt.mp n), lane]
    exact ⟨latchDetail .recordDropped (s.withCtx l next), _, rfl, rfl, rfl⟩

section sealing
variable (l : Lane) (extra : BitVec 24) (next : Context) (s : State)

theorem sealInto_other {k : Lane} (h : k ≠ l) : (sealInto l extra next s).builder k = s.builder k := by
  by_cases d : (s.ctx l).dropped = true
  · rw [sealInto_dropped d]; simp [h]
  · obtain ⟨u, v, vb, -, e⟩ := sealInto_shape d extra next
    rw [e, triggerOnVerdict_other h, State.builder, vb]; simp [h]

theorem sealInto_own : (sealInto l extra next s).builder l = { s.builder l with
    ctx := (sealInto l extra next s).ctx l, pulse := ((sealInto l extra next s).builder l).pulse } := by
  by_cases d : (s.ctx l).dropped = true
  · rw [sealInto_dropped d]; simp
  · obtain ⟨u, v, vb, -, e⟩ := sealInto_shape d extra next
    rw [e, triggerOnVerdict_builder, triggerOnVerdict_ctx, State.ctx, State.builder, vb]; simp

theorem sealInto_quiet (h : (s.laneSet l).triggerMode = .off ∨ (s.laneSet l).triggerMode = .onOpen) :
    ((sealInto l extra next s).builder l).pulse = (s.builder l).pulse := by
  by_cases d : (s.ctx l).dropped = true
  · rw [sealInto_dropped d]; simp
  · obtain ⟨u, v, vb, sst, e⟩ := sealInto_shape d extra next
    have quiet : (u.laneSet l).triggerMode = .off ∨ (u.laneSet l).triggerMode = .onOpen := by simpa [sst] using h
    rw [e, triggerOnVerdict_quiet quiet, State.builder, vb]; simp

end sealing

/-! ### A vehicle disturbed -/

theorem SealedNext.counts {flag : BitVec 24} {c : Context} {l : Lane} {s t : State} (h : SealedNext flag c l s t) :
    s.rst.queue <+: t.rst.queue ∧ t.rst.queue.length ≤ s.rst.queue.length + 1 ∧ t.vehicleNumber ≤ s.vehicleNumber + 1 := by
  obtain ⟨numbered, unnumbered, -⟩ := h
  by_cases n : s.vehicleNumber < 4294967295
  · obtain ⟨number, room, full⟩ := numbered n
    by_cases q : s.rst.queue.length < 4
    · obtain ⟨r, rst, -, -⟩ := room q
      rw [rst, number]; exact ⟨List.prefix_append _ _, by simp, Nat.le_refl _⟩
    · rw [full (Nat.not_lt.mp q), number]; exact ⟨List.prefix_refl _, Nat.le_succ _, Nat.le_refl _⟩
  · obtain ⟨number, rst⟩ := unnumbered (Nat.not_lt.mp n)
    rw [rst, number]; exact ⟨List.prefix_refl _, Nat.le_succ _, Nat.le_succ _⟩

theorem faultFlag_or (s : State) (l : Lane) (flag : BitVec 24) :
    flag ||| faultFlag s l = if (s.builder l).loopFault then flag ||| VFlag.loopFault else flag := by
  unfold faultFlag flagIf; split <;> simp

theorem disturb_idle {l : Lane} {s : State} (h : (s.ctx l).state = .idle) (flag : BitVec 24) : disturb l flag s = s := by
  rw [disturb]; exact if_pos h

theorem disturb_open {l : Lane} {s : State} (h : (s.ctx l).state ≠ .idle) (flag : BitVec 24) :
    disturb l flag s = sealInto l flag (continuationOf s l flag) s := by rw [disturb]; exact if_neg h

/-- The rule of a disturbance at one builder (R102 to R104). -/
theorem disturb_next (l : Lane) (flag : BitVec 24) (s : State) : DisturbedNext flag l s (disturb l flag s) := by
  refine ⟨fun idle => disturb_idle idle flag, fun busy cont none => ?_, fun busy full => ?_⟩
  · rw [disturb_open busy]; exact sealInto_dropped ((dropped_iff _).mpr ⟨cont, none⟩) _ _
  · have sealed : ¬ (s.ctx l).dropped = true := fun d => full ((dropped_iff _).mp d)
    rw [disturb_open busy]
    refine ⟨?_, sealInto_sealed sealed _ _, fun k hk => sealInto_other l _ _ s hk, sealInto_frame _ _ _ _⟩
    rw [sealInto_ctx, if_pos rfl, if_neg sealed, continuationOf, faultFlag_or]

/-- One lane's builder at work: the builders of the other lanes stand, and at most one vehicle is sealed. -/
structure LaneStep (l : Lane) (s t : State) : Prop where
  others : ∀ k, k ≠ l → t.builder k = s.builder k
  sst : t.sst = s.sst
  queue : s.rst.queue <+: t.rst.queue
  one : t.rst.queue.length ≤ s.rst.queue.length + 1
  number : t.vehicleNumber ≤ s.vehicleNumber + 1

theorem LaneStep.of_withCtx (l : Lane) (c : Context) (s : State) : LaneStep l s (s.withCtx l c) :=
  ⟨fun k h => by simp [h], rfl, List.prefix_refl _, Nat.le_succ _, Nat.le_succ _⟩

theorem LaneStep.refl (l : Lane) (s : State) : LaneStep l s s :=
  ⟨fun _ _ => rfl, rfl, List.prefix_refl _, Nat.le_succ _, Nat.le_succ _⟩

theorem sealInto_step (l : Lane) (extra : BitVec 24) (next : Context) (s : State) : LaneStep l s (sealInto l extra next s) := by
  by_cases d : (s.ctx l).dropped = true
  · rw [sealInto_dropped d]; exact .of_withCtx l _ s
  · obtain ⟨queue, one, number⟩ := (sealInto_sealed d extra next).counts
    exact ⟨fun k h => sealInto_other l extra next s h, sealInto_frame l extra next s .sst (by decide), queue, one, number⟩

/-- A disturbance at one lane, as the rest of the unit sees it. -/
structure LaneDisturbed (flag : BitVec 24) (l : Lane) (s t : State) : Prop extends LaneStep l s t where
  next : DisturbedNext flag l s t
  own : t.builder l = { s.builder l with ctx := t.ctx l, pulse := (t.builder l).pulse }
  quiet : (s.laneSet l).triggerMode = .off ∨ (s.laneSet l).triggerMode = .onOpen → (t.builder l).pulse = (s.builder l).pulse

theorem disturb_lane (l : Lane) (flag : BitVec 24) (s : State) : LaneDisturbed flag l s (disturb l flag s) := by
  have next := disturb_next l flag s
  by_cases idle : (s.ctx l).state = .idle
  · rw [disturb_idle idle] at next ⊢
    exact ⟨.refl l s, next, rfl, fun _ => rfl⟩
  · rw [disturb_open idle] at next ⊢
    exact ⟨sealInto_step l _ _ s, next, sealInto_own l _ _ s, sealInto_quiet l _ _ s⟩

/-! ### The lanes in turn -/

/-- A lane's turn, from `a` to `b`, in a pass over the lanes from `s` to `t`: before it the lane's builder is untouched and at most two
other vehicles have been sealed, after it the builder is left alone and the queue only grows. -/
structure Turn (l : Lane) (s a b t : State) : Prop where
  active : a.sst.active = t.sst.active
  before : a.builder l = s.builder l
  after : t.builder l = b.builder l
  queued : a.rst.queue.length ≤ s.rst.queue.length + 2
  numbered : a.vehicleNumber ≤ s.vehicleNumber + 2
  later : b.rst.queue <+: t.rst.queue

/-- The three lanes in turn. -/
theorem turns {s a b t : State} (one : LaneStep .one s a) (two : LaneStep .two a b) (three : LaneStep .three b t) :
    Turn .one s s a t ∧ Turn .two s a b t ∧ Turn .three s b t t := by
  have queue1 := one.one; have queue2 := two.one
  have number1 := one.number; have number2 := two.number
  have active3 : b.sst.active = t.sst.active := (congrArg SettingsStore.active three.sst).symm
  have active2 : a.sst.active = t.sst.active := (congrArg SettingsStore.active two.sst).symm.trans active3
  refine ⟨⟨?_, rfl, ?_, by omega, by omega, two.queue.trans three.queue⟩,
    ⟨active2, one.others .two (by decide), three.others .two (by decide), by omega, by omega, three.queue⟩,
    ⟨active3, ?_, rfl, by omega, by omega, List.prefix_refl _⟩⟩
  · exact (congrArg SettingsStore.active one.sst).symm.trans active2
  · exact (three.others .one (by decide)).trans (two.others .one (by decide))
  · exact (two.others .three (by decide)).trans (one.others .three (by decide))

/-- A disturbance taken in a lane's turn (R102 to R104). -/
theorem LaneDisturbed.disturbed {flag : BitVec 24} {l : Lane} {s a b t : State} (h : LaneDisturbed flag l a b) (turn : Turn l s a b t)
    (some : flag ≠ 0) : Disturbed flag s t l := by
  obtain ⟨active, before, after, queued, numbered, later⟩ := turn
  have ctxBefore : a.ctx l = s.ctx l := congrArg Builder.ctx before
  have ctxAfter : t.ctx l = b.ctx l := congrArg Builder.ctx after
  have set : t.laneSet l = a.laneSet l := by simp only [State.laneSet, State.settings, active]
  have generation : t.generation = a.generation := by simp only [State.generation, active]
  obtain ⟨idle, dropped, sealed⟩ := h.next
  refine ⟨?_, fun off => ?_, fun e => ?_, fun busy cont none => ?_, fun busy full => ⟨?_, fun few small => ?_⟩⟩
  · rw [after, ctxAfter, ← before]; exact h.own
  · rw [after, ← before]; exact h.quiet (by rwa [set] at off)
  · rw [ctxAfter, idle (by rwa [ctxBefore]), ctxBefore]
  · rw [ctxAfter, dropped (by rwa [ctxBefore]) (by rwa [ctxBefore]) (by rwa [ctxBefore]), withCtx_ctx, if_pos rfl]
  · rw [ctxAfter, (sealed (by rwa [ctxBefore]) (by rwa [ctxBefore])).1, ctxBefore, before, generation]
  · obtain ⟨-, next, -, -⟩ := sealed (by rwa [ctxBefore]) (by rwa [ctxBefore])
    obtain ⟨-, room, -⟩ := next.1 (by omega)
    obtain ⟨r, rst, -, lane, stamp, flags, axles⟩ := room (by omega)
    have within : hasAny r.flags flag = true := Within.hasAny (Within.of_or flags) some
    refine ⟨r, later.subset (by rw [rst]; simp), lane, within, by rw [stamp, ctxBefore], ?_⟩
    rw [← ctxBefore]; simpa using congrArg List.length axles

end Sys2Proof.Machine
end

section
/-! Channel health and the unpaired axles of a former (R57, R66 to R69): what counting a row pulse does to the miss counts, what handing on
row pulses without partners does to the formers, and the axle that such a row pulse becomes. -/

namespace Sys2Proof.Machine

/-! ### One channel counted -/

/-- A detail stands at every port, and SITE_ALARM with it. -/
def State.alarmed (s : State) (d : Detail) : Prop :=
  ∀ p, hasAny (s.sitePort p).details d.mask = true ∧ hasAny (s.sitePort p).cond Condition.siteAlarm.mask = true

theorem latchDetail_alarmed (d : Detail) (s : State) : (latchDetail d s).alarmed d := fun p =>
  ⟨latchDetail_latched d s p, by
    simp only [latchDetail, State.sitePort, State.withPorts_port, PerPort.get_mapI, SitePort.latchDetail]
    rw [BitVec.or_comm]; exact hasAny_or_left (by decide)⟩

theorem LatchesKept.alarmed {s t : State} (h : LatchesKept s t) {d : Detail} (a : s.alarmed d) : t.alarmed d :=
  fun p => ⟨(h p).1 _ (a p).1, (h p).2 _ (a p).2⟩

section countMiss
variable {c k : Channel} {s : State}

theorem countMiss_disabled (h : ¬ (s.channelSet c).enabled = true) : countMiss c s = s := by rw [countMiss]; exact if_neg h

theorem countMiss_axf (h : (s.channelSet c).enabled = true) : (countMiss c s).axf = s.axf.set c.lane { s.former c.lane with
    miss := (s.former c.lane).miss.set c.row c.side (min 32 (s.misses c + 1)) } := by
  rw [countMiss, if_pos h]; exact latchDetailIf_frame _ _ _ .axf (by decide)

theorem countMiss_own (h : (s.channelSet c).enabled = true) : (countMiss c s).misses c = min 32 (s.misses c + 1) := by
  rw [State.misses, State.former, countMiss_axf h]; simp

theorem countMiss_other (h : k ≠ c) : (countMiss c s).misses k = s.misses k := by
  by_cases e : (s.channelSet c).enabled = true
  · rw [State.misses, State.former, countMiss_axf e, PerLane.get_set]
    split
    next lane =>
      have apart : ¬ (k.row = c.row ∧ k.side = c.side) := fun ⟨row, side⟩ => h (by cases k; cases c; simp_all)
      show (((s.former c.lane).miss.set c.row c.side _).get k.row k.side) = s.misses k
      rw [PerHalf.get_set, if_neg apart, State.misses, lane]
    next => rfl
  · rw [countMiss_disabled e]

theorem countMiss_alarmed (h : (s.channelSet c).enabled = true) (low : s.misses c < 32) (reaches : 32 ≤ s.misses c + 1) :
    (countMiss c s).alarmed .channelSilent := by
  have b : (decide ((s.former c.lane).miss.get c.row c.side < silentCount) &&
      decide (silentCount ≤ (s.former c.lane).miss.get c.row c.side + 1)) = true := by
    rw [Bool.and_eq_true, decide_eq_true_eq, decide_eq_true_eq]; exact ⟨low, reaches⟩
  rw [countMiss, if_pos h]
  simp only [b]
  exact latchDetail_alarmed _ _

theorem countMiss_latches : OnlyLatched s (countMiss c s) :=
  onlyLatched_ite ((onlyLatched_of_frame (withFormer_frame _ _ s) (by decide)).trans (latchDetailIf_latches _ _ _)) (.refl s)

theorem countMiss_sst : (countMiss c s).sst = s.sst := countMiss_frame c s .sst (by decide)

/-- Only the counts of channel health are touched. -/
theorem countMiss_former (l : Lane) : (countMiss c s).former l = { s.former l with miss := ((countMiss c s).former l).miss } := by
  by_cases e : (s.channelSet c).enabled = true
  · simp only [State.former, countMiss_axf e, PerLane.get_set]
    split
    next lane => rw [lane]
    next => rfl
  · rw [countMiss_disabled e]

theorem countMiss_apart {l : Lane} (h : l ≠ c.lane) : (countMiss c s).former l = s.former l := by
  by_cases e : (s.channelSet c).enabled = true
  · simp only [State.former, countMiss_axf e, PerLane.get_set, if_neg h]
  · rw [countMiss_disabled e]

end countMiss

/-! ### Counts over row pulses (R68, R69) -/

section counted
variable {rows more : List RowPulse} {n : Channel → Nat} {s t u : State} {l : Lane}

theorem absent_append (rows more : List RowPulse) (r : Row) (d : Side) : absent (rows ++ more) r d = absent rows r d + absent more r d := by
  simp [absent]

theorem absent_perm (h : rows.Perm more) (r : Row) (d : Side) : absent rows r d = absent more r d := (h.filter _).length_eq

theorem MissesCounted.perm (h : MissesCounted rows n s t l) (p : rows.Perm more) : MissesCounted more n s t l := by
  intro c hc
  have e := absent_perm p c.row c.side
  obtain ⟨count, silent⟩ := h c hc
  refine ⟨by rw [count, e], fun goes => silent ?_⟩
  rwa [GoesSilent, ← e] at goes

theorem missesCounted_nil (same : ∀ c : Channel, c.lane = l → t.misses c = n c) : MissesCounted [] n s t l := by
  intro c hc
  refine ⟨?_, fun goes => ?_⟩
  · have count := same c hc
    rw [State.misses, hc] at count
    simpa [absent] using count
  · obtain ⟨-, low, reaches⟩ := goes
    exact absurd reaches (by simpa [absent] using low)

/-- A later state in which the lane's counts stand, and nothing latched is taken back. -/
theorem MissesCounted.later (h : MissesCounted rows n s t l) (same : (u.former l).miss = (t.former l).miss) (kept : LatchesKept t u) :
    MissesCounted rows n s u l := by
  intro c hc
  obtain ⟨count, silent⟩ := h c hc
  exact ⟨by rw [same]; exact count, fun goes => kept.alarmed (d := .channelSilent) (silent goes)⟩

/-- The same counts seen from an earlier state with the same settings and the lane's counts. -/
theorem MissesCounted.earlier {m : Channel → Nat} {v : State} (h : MissesCounted rows n s t l) (sst : s.sst = v.sst)
    (same : ∀ c : Channel, c.lane = l → n c = m c) : MissesCounted rows m v t l := by
  intro c hc
  have set : v.channelSet c = s.channelSet c := by simp [sst]
  obtain ⟨count, silent⟩ := h c hc
  exact ⟨by rw [set, ← same c hc]; exact count, fun goes => silent (by rwa [GoesSilent, set, ← same c hc] at goes)⟩

theorem MissesCounted.append (h : MissesCounted rows n s t l) (k : MissesCounted more t.misses t u l) (sst : t.sst = s.sst)
    (kept : LatchesKept t u) : MissesCounted (rows ++ more) n s u l := by
  intro c hc
  have set : t.channelSet c = s.channelSet c := by simp [sst]
  obtain ⟨first, early⟩ := h c hc
  obtain ⟨second, late⟩ := k c hc
  have between : t.misses c = (t.former l).miss.get c.row c.side := by rw [State.misses, hc]
  rw [set, between, first] at second
  refine ⟨?_, fun goes => ?_⟩
  · rw [second, absent_append]
    by_cases e : (s.channelSet c).enabled = true
    · simp only [e, true_and]; split_ifs <;> omega
    · have off {n : Nat} : ¬ ((s.channelSet c).enabled = true ∧ 0 < n) := fun x => e x.1
      simp only [if_neg off]
  · obtain ⟨enabled, low, reaches⟩ := goes
    rw [absent_append] at reaches
    by_cases soon : 32 ≤ n c + absent rows c.row c.side
    · exact kept.alarmed (d := .channelSilent) (early ⟨enabled, low, soon⟩)
    · refine late ⟨by rw [set]; exact enabled, ?_, ?_⟩ <;>
      · rw [between, first]; simp only [enabled, true_and]; split_ifs <;> omega

end counted

/-- A channel counted when a condition holds. -/
def countMissIf (b : Bool) (c : Channel) (s : State) : State := if b then countMiss c s else s

theorem countRow_eq (r : RowPulse) (s : State) : countRow r s =
    countMissIf r.right.isNone ⟨r.lane, r.row, .right⟩ (countMissIf r.left.isNone ⟨r.lane, r.row, .left⟩ s) := rfl

section row
variable {b : Bool} {c k : Channel} {s : State}

theorem countMissIf_other (h : k ≠ c) : (countMissIf b c s).misses k = s.misses k := by
  cases b
  · rfl
  · exact countMiss_other h

theorem countMissIf_own : (countMissIf b c s).misses c =
    if (s.channelSet c).enabled = true ∧ b = true then min 32 (s.misses c + 1) else s.misses c := by
  cases b
  · simp [countMissIf]
  · by_cases e : (s.channelSet c).enabled = true
    · rw [countMissIf, if_pos rfl, if_pos ⟨e, rfl⟩, countMiss_own e]
    · rw [countMissIf, if_pos rfl, if_neg fun h => e h.1, countMiss_disabled e]

theorem countMissIf_latches : OnlyLatched s (countMissIf b c s) := onlyLatched_ite countMiss_latches (.refl s)

theorem countMissIf_sst : (countMissIf b c s).sst = s.sst := by
  cases b
  · rfl
  · exact countMiss_sst

/-- A channel counted as a lane's count asks (R68, R69). -/
theorem countMissIf_counts {r : RowPulse} (hb : b = (r.half c.side).isNone) (hr : r.row = c.row) :
    (countMissIf b c s).misses c =
      (if (s.channelSet c).enabled ∧ 0 < absent [r] c.row c.side then min 32 (s.misses c + absent [r] c.row c.side) else s.misses c) ∧
    (GoesSilent [r] (s.misses c) s c → (countMissIf b c s).alarmed .channelSilent) := by
  have lacks : absent [r] c.row c.side = if b = true then 1 else 0 := by
    rw [hb]; simp [absent, hr, List.filter_cons]; split <;> rfl
  rw [countMissIf_own, GoesSilent, lacks]
  cases b
  · exact ⟨by simp, fun ⟨_, low, reaches⟩ => absurd reaches (by simpa using low)⟩
  · refine ⟨by simp, fun ⟨enabled, low, reaches⟩ => ?_⟩
    rw [countMissIf, if_pos rfl]
    exact countMiss_alarmed enabled low reaches

/-- The halves that a row pulse lacks, counted (R68). -/
theorem countRow_counts (r : RowPulse) (s : State) : MissesCounted [r] s.misses s (countRow r s) r.lane := by
  intro c hc
  obtain ⟨lane, row, side⟩ := c
  obtain rfl : lane = r.lane := hc
  show (countRow r s).misses ⟨r.lane, row, side⟩ = _ ∧ (_ → (countRow r s).alarmed .channelSilent)
  rw [countRow_eq]
  by_cases hr : row = r.row
  · subst hr
    cases side
    · obtain ⟨count, silent⟩ := countMissIf_counts (s := s) (b := r.left.isNone) (c := ⟨r.lane, r.row, .left⟩) (r := r) rfl rfl
      rw [countMissIf_other (by simp)]
      exact ⟨count, fun goes => countMissIf_latches.kept.alarmed (silent goes)⟩
    · obtain ⟨count, silent⟩ := countMissIf_counts (s := countMissIf r.left.isNone ⟨r.lane, r.row, .left⟩ s) (b := r.right.isNone)
        (c := ⟨r.lane, r.row, .right⟩) (r := r) rfl rfl
      rw [countMissIf_other (c := ⟨r.lane, r.row, .left⟩) (k := ⟨r.lane, r.row, .right⟩) (by simp)] at count silent
      have set : (countMissIf r.left.isNone ⟨r.lane, r.row, .left⟩ s).channelSet = s.channelSet := by
        funext c; simp [countMissIf_sst]
      rw [set] at count
      exact ⟨count, fun goes => silent (by rwa [GoesSilent, set])⟩
  · have none : absent [r] row side = 0 := by simp [absent, Ne.symm hr]
    rw [countMissIf_other (by simp [hr]), countMissIf_other (by simp [hr])]
    exact ⟨by simp [none], fun ⟨_, low, reaches⟩ => absurd reaches (by simpa [none] using low)⟩

end row

/-! ### Row pulses handed on without partners (R57, R66, R67) -/

/-- Only the counts of channel health have been touched in the formers. -/
def HealthOnly (s t : State) : Prop := ∀ l, t.former l = { s.former l with miss := (t.former l).miss }

theorem HealthOnly.refl (s : State) : HealthOnly s s := fun _ => rfl

theorem HealthOnly.trans {s t u : State} (h : HealthOnly s t) (k : HealthOnly t u) : HealthOnly s u :=
  fun l => (k l).trans (by rw [h l])

theorem healthOnly_of_frame {L : List Part} {s t : State} (h : AgreeOutside L s t) (no : Part.axf ∉ L) : HealthOnly s t := by
  intro l; rw [State.former, show t.axf = s.axf from h .axf no]; rfl

theorem healthOnly_ite {p : Prop} [Decidable p] {s a b : State} (h : HealthOnly s a) (k : HealthOnly s b) :
    HealthOnly s (if p then a else b) := by split <;> assumption

theorem HealthOnly.slots {s t : State} (h : HealthOnly s t) (l : Lane) : (t.former l).slots = (s.former l).slots :=
  (congrArg AxleFormer.slots (h l) :)
theorem HealthOnly.upstream {s t : State} (h : HealthOnly s t) (l : Lane) : (t.former l).upstream = (s.former l).upstream :=
  (congrArg AxleFormer.upstream (h l) :)

theorem countRow_health (r : RowPulse) (s : State) : HealthOnly s (countRow r s) :=
  (healthOnly_ite (fun l => countMiss_former l) (.refl s)).trans (healthOnly_ite (fun l => countMiss_former l) (.refl _))

theorem countRow_latches (r : RowPulse) (s : State) : OnlyLatched s (countRow r s) := countMissIf_latches.trans countMissIf_latches

theorem countRow_apart {r : RowPulse} {l : Lane} (h : l ≠ r.lane) (s : State) : (countRow r s).former l = s.former l := by
  rw [countRow_eq, countMissIf, countMissIf]
  split <;> split <;> simp [countMiss_apart (c := ⟨r.lane, r.row, _⟩) h, -State.former_eq]

/-- A flag of an unpaired axle. -/
theorem unpaired_straddle (s : State) (r : RowPulse) : hasAny (unpairedAxle s r).flags AFlag.straddle = r.straddle := by
  simp only [unpairedAxle]
  cases r.straddle <;> cases (r.summaries.any fun m => m.slip) <;> cases (r.summaries.any fun m => m.sat) <;> decide

section hand
variable (r : RowPulse) (s : State)

theorem handUnpaired_eq : handUnpaired r s =
    if r.straddle = true then axleArrival r.lane (unpairedAxle s r) s else countRow r (axleArrival r.lane (unpairedAxle s r) s) := by
  rw [handUnpaired, handAxle, countMisses, unpaired_straddle]; rfl

theorem axleArrival_axf (l : Lane) (a : Axle) : (axleArrival l a s).axf = s.axf := axleArrival_frame l a s .axf (by decide)

theorem handUnpaired_health : HealthOnly s (handUnpaired r s) := by
  have arrival : HealthOnly s (axleArrival r.lane (unpairedAxle s r) s) := healthOnly_of_frame (axleArrival_frame _ _ s) (by decide)
  rw [handUnpaired_eq]
  exact healthOnly_ite arrival (arrival.trans (countRow_health r _))

theorem handUnpaired_latches : OnlyLatched s (handUnpaired r s) := by
  rw [handUnpaired_eq]
  exact onlyLatched_ite (axleArrival_latches _ s _) ((axleArrival_latches _ s _).trans (countRow_latches r _))

theorem handUnpaired_apart {l : Lane} (h : l ≠ r.lane) : (handUnpaired r s).former l = s.former l := by
  have arrival : (axleArrival r.lane (unpairedAxle s r) s).former l = s.former l := by
    rw [State.former, axleArrival_axf]; rfl
  rw [handUnpaired_eq]; split
  · exact arrival
  · rw [countRow_apart h, arrival]

theorem handUnpaired_alike : Alike (axleArrival r.lane (unpairedAxle s r) s) (handUnpaired r s) := by
  rw [handUnpaired_eq]; split
  · exact .refl _
  · exact alike_of_frame (countRow_frame r _) (by decide)

theorem handUnpaired_undeferred : Undeferred s (handUnpaired r s) :=
  (axleArrival_undeferred _ s _).trans (undeferred_of_vb ((handUnpaired_alike r s) .vb (by decide)))

theorem handUnpaired_counts : MissesCounted (ownRows [r]) s.misses s (handUnpaired r s) r.lane := by
  generalize ha : axleArrival r.lane (unpairedAxle s r) s = x
  have axf : x.axf = s.axf := by rw [← ha, axleArrival_axf]
  have sst : x.sst = s.sst := by rw [← ha]; exact axleArrival_frame _ _ s .sst (by decide)
  have misses : x.misses = s.misses := by funext c; simp [State.misses, axf]
  rw [handUnpaired_eq, ha]
  by_cases st : r.straddle = true
  · rw [if_pos st, show ownRows [r] = [] by simp [ownRows, st]]
    exact missesCounted_nil fun c _ => by rw [misses]
  · rw [if_neg st, show ownRows [r] = [r] by simp [ownRows, st]]
    exact (countRow_counts r x).earlier sst fun c _ => by rw [misses]

end hand

section handAll
variable {l : Lane}

theorem handUnpairedAll_cons (r : RowPulse) (rs : List RowPulse) (s : State) :
    handUnpairedAll (r :: rs) s = handUnpairedAll rs (handUnpaired r s) := rfl

theorem handUnpairedAll_health : ∀ (rs : List RowPulse) (s : State), HealthOnly s (handUnpairedAll rs s)
  | [], s => .refl s
  | r :: rs, s => (handUnpaired_health r s).trans (handUnpairedAll_health rs _)

theorem handUnpairedAll_latches (rs : List RowPulse) (s : State) : OnlyLatched s (handUnpairedAll rs s) :=
  onlyLatched_foldl _ (fun s r => handUnpaired_latches r s) rs s

theorem handUnpairedAll_undeferred (rs : List RowPulse) (s : State) : Undeferred s (handUnpairedAll rs s) :=
  undeferred_foldl _ (fun s r => handUnpaired_undeferred r s) rs s

theorem handUnpairedAll_apart {k : Lane} (h : k ≠ l) :
    ∀ (rs : List RowPulse) (s : State), (∀ r ∈ rs, r.lane = l) → (handUnpairedAll rs s).former k = s.former k
  | [], _, _ => rfl
  | r :: rs, s, own => by
    obtain ⟨here, rest⟩ := List.forall_mem_cons.mp own
    rw [handUnpairedAll_cons, handUnpairedAll_apart h rs _ rest, handUnpaired_apart r s (by rwa [here])]

theorem handUnpairedAll_counts : ∀ (rs : List RowPulse) (s : State), (∀ r ∈ rs, r.lane = l) →
    MissesCounted (ownRows rs) s.misses s (handUnpairedAll rs s) l
  | [], s, _ => missesCounted_nil fun _ _ => rfl
  | r :: rs, s, own => by
    obtain ⟨here, rest⟩ := List.forall_mem_cons.mp own
    have counts := handUnpaired_counts r s
    rw [here] at counts
    have split : ownRows (r :: rs) = ownRows [r] ++ ownRows rs := by simp [ownRows, ← List.filter_append]
    rw [split, handUnpairedAll_cons]
    exact counts.append (handUnpairedAll_counts rs _ rest) (handUnpaired_frame r s .sst (by decide))
      (handUnpairedAll_latches rs _).kept

/-- The unpaired axle of a row pulse depends on the time and the generation alone. -/
theorem unpairedAxle_congr {s x : State} (sck : x.sck = s.sck) (sst : x.sst = s.sst) : unpairedAxle x = unpairedAxle s := by
  funext r; simp [unpairedAxle, sck, sst]

/-- To the builder, row pulses of its lane handed on are the arrivals of their unpaired axles. -/
theorem handUnpairedAll_alike : ∀ (rs : List RowPulse) {s x : State}, (∀ r ∈ rs, r.lane = l) → Alike s x →
    Alike (s.arrivals l (rs.map (unpairedAxle s))) (handUnpairedAll rs x)
  | [], _, _, _, h => h
  | r :: rs, s, x, own, h => by
    obtain ⟨here, rest⟩ := List.forall_mem_cons.mp own
    have same : unpairedAxle (axleArrival l (unpairedAxle s r) s) = unpairedAxle s :=
      unpairedAxle_congr (axleArrival_frame _ _ s .sck (by decide)) (axleArrival_frame _ _ s .sst (by decide))
    have axle : unpairedAxle x r = unpairedAxle s r := congrFun (unpairedAxle_congr (h .sck (by decide)) (h .sst (by decide))) r
    have step : Alike (axleArrival l (unpairedAxle s r) s) (handUnpaired r x) := by
      have arrived := handUnpaired_alike r x
      rw [axle, here] at arrived
      exact (h.axleArrival l _).trans arrived
    have all := handUnpairedAll_alike rs rest step
    rw [same] at all
    rwa [List.map_cons, State.arrivals_cons, handUnpairedAll_cons]

end handAll

end Sys2Proof.Machine
end

section
/-! The flush of an axle former at a link loss (R70): the row pulses it hands on and their order, and what each lane's builder makes of
them. -/

namespace Sys2Proof.Machine

/-! ### The axle of a row pulse without a partner -/

theorem earliestTime_earliest (present : Word32) : ∀ ms : List Summary, ms ≠ [] →
    ∃ m ∈ ms, earliestTime present ms = m.time ∧ ∀ k ∈ ms, (present - k.startScan).toNat ≤ (present - m.startScan).toNat
  | [], h => absurd rfl h
  | [m], _ => ⟨m, by simp, by rw [earliestTime], by simp⟩
  | m :: n :: rest, _ => by
    rw [earliestTime]
    split
    next earlier =>
      obtain ⟨k, mem, time, oldest⟩ := earliestTime_earliest present (n :: rest) (by simp)
      refine ⟨k, List.mem_cons_of_mem _ mem, time, List.forall_mem_cons.mpr ⟨?_, oldest⟩⟩
      exact (Nat.le_of_lt earlier).trans (oldest n (by simp))
    next later =>
      obtain ⟨k, mem, time, oldest⟩ := earliestTime_earliest present (m :: rest) (by simp)
      obtain ⟨first, others⟩ := List.forall_mem_cons.mp oldest
      refine ⟨k, ?_, time, ?_⟩
      · exact (List.mem_cons.mp mem).elim (fun e => by simp [e]) fun e => by simp [e]
      · exact List.forall_mem_cons.mpr ⟨first, List.forall_mem_cons.mpr ⟨(Nat.not_lt.mp later).trans first, others⟩⟩
termination_by ms => ms.length

/-- The flags of an unpaired axle, read back. -/
theorem unpaired_flags : ∀ straddle slip sat : Bool,
    let flags := AFlag.unpaired ||| flagIf straddle AFlag.straddle ||| flagIf slip AFlag.slip ||| flagIf sat AFlag.saturated
    hasAny flags AFlag.unpaired = true ∧
      hasAny flags (AFlag.singleRow ||| AFlag.oneTrack ||| AFlag.speedRange ||| AFlag.rowDisagree) = false ∧
      hasAny flags AFlag.straddle = straddle ∧ hasAny flags AFlag.slip = slip ∧ hasAny flags AFlag.saturated = sat := by
  decide

theorem unpairedAxle_of (s : State) (r : RowPulse) : UnpairedOf s r (unpairedAxle s r) := by
  obtain ⟨unpaired, others, straddle, slip, sat⟩ :=
    unpaired_flags r.straddle (r.summaries.any fun m => m.slip) (r.summaries.any fun m => m.sat)
  refine ⟨rfl, rfl, rfl, rfl, rfl, rfl, rfl, unpaired, others, ?_, ?_, ?_, earliestTime_earliest _ _⟩
  · exact iff_of_eq (congrArg (· = true) straddle)
  · exact (iff_of_eq (congrArg (· = true) slip)).trans (by simp)
  · exact (iff_of_eq (congrArg (· = true) sat)).trans (by simp)

/-! ### The order of instants -/

/-- Row pulses in the order of their instants. -/
def InOrder (rows : List RowPulse) : Prop := rows.Pairwise fun e f => 0 ≤ fineSpan f.instant e.instant

/-- Near the present no span wraps, so that spans add up. -/
theorem fineSpan_near {s : State} {a b : Instant} (ha : NearPresent s a) (hb : NearPresent s b) :
    fineSpan a b = fineSpan (fineOfScan s.sck.present) b - fineSpan (fineOfScan s.sck.present) a := by
  unfold NearPresent fineSpan at *
  generalize fineOfScan s.sck.present = p at *
  have split : a - b = (p - b) - (p - a) := by abel
  rw [split, BitVec.toInt_sub]
  rw [Int.bmod_eq_of_le] <;> omega

theorem insertByInstant_perm (r : RowPulse) : ∀ list : List RowPulse, (insertByInstant r list).Perm (r :: list)
  | [] => .refl _
  | e :: rest => by
    rw [insertByInstant]; split
    · exact ((insertByInstant_perm r rest).cons e).trans (.swap r e rest)
    · exact .refl _

theorem insertAll_perm : ∀ rs list : List RowPulse, (insertAll rs list).Perm (list ++ rs)
  | [], list => by rw [List.append_nil]; exact .refl _
  | r :: rs, list =>
    (insertAll_perm rs (insertByInstant r list)).trans (((insertByInstant_perm r list).append_right rs).trans List.perm_middle.symm)

theorem insertByInstant_inOrder {s : State} {r : RowPulse} (hr : NearPresent s r.instant) :
    ∀ {list : List RowPulse}, (∀ e ∈ list, NearPresent s e.instant) → InOrder list → InOrder (insertByInstant r list)
  | [], _, _ => List.pairwise_singleton _ _
  | e :: rest, near, order => by
    obtain ⟨he, nearRest⟩ := List.forall_mem_cons.mp near
    obtain ⟨first, orderRest⟩ := List.pairwise_cons.mp order
    rw [insertByInstant]
    split
    next after =>
      refine List.pairwise_cons.mpr ⟨fun f hf => ?_, insertByInstant_inOrder hr nearRest orderRest⟩
      rcases List.mem_cons.mp ((insertByInstant_perm r rest).subset hf) with rfl | mem
      · exact after
      · exact first f mem
    next before =>
      refine List.pairwise_cons.mpr ⟨fun f hf => ?_, order⟩
      have firstLater : fineSpan e.instant r.instant ≥ 0 := by
        rw [fineSpan_near hr he] at before; rw [fineSpan_near he hr]; omega
      rcases List.mem_cons.mp hf with rfl | mem
      · exact firstLater
      · have later := first f mem
        rw [fineSpan_near (nearRest f mem) he] at later
        rw [fineSpan_near he hr] at firstLater
        rw [fineSpan_near (nearRest f mem) hr]; omega

theorem insertAll_inOrder {s : State} : ∀ {rs list : List RowPulse}, (∀ e ∈ list ++ rs, NearPresent s e.instant) → InOrder list →
    InOrder (insertAll rs list)
  | [], _, _, order => order
  | r :: rs, list, near, order => by
    have hr : NearPresent s r.instant := near r (by simp)
    have hlist : ∀ e ∈ list, NearPresent s e.instant := fun e he => near e (by simp [he])
    refine insertAll_inOrder (s := s) (rs := rs) (fun e he => ?_) (insertByInstant_inOrder hr hlist order)
    exact near e (List.perm_middle.mem_iff.mpr (((insertByInstant_perm r list).append_right rs).subset he))

/-! ### The row pulses of a flush -/

theorem oneTrackPulse_eq (m : Summary) : oneTrackPulse m = oneTrackOf m := by
  unfold oneTrackPulse oneTrackOf; cases m.ch.side <;> rfl

/-- The row pulses that a former hands on at a link loss. -/
def flushRows (s : State) (l : Lane) : List RowPulse := insertAll (heldHalves (s.former l)) (s.former l).upstream

theorem flushed_eq (s : State) (l : Lane) : s.flushed l = (s.former l).upstream ++ heldHalves (s.former l) := by
  have slots : [(s.former l).slots.uLeft, (s.former l).slots.uRight, (s.former l).slots.dLeft, (s.former l).slots.dRight] =
      [⟨l, .u, .left⟩, ⟨l, .u, .right⟩, ⟨l, .d, .left⟩, ⟨l, .d, .right⟩].map s.slot := rfl
  rw [State.flushed, heldHalves, slots, List.filterMap_map, List.map_filterMap]
  congr 2; funext c
  simp only [Function.comp, show oneTrackPulse = oneTrackOf from funext oneTrackPulse_eq]

theorem flushRows_perm (s : State) (l : Lane) : (flushRows s l).Perm (s.flushed l) := by
  rw [flushed_eq]; exact insertAll_perm _ _

/-- What a flush hands on is what the lane's slots and list hold. -/
theorem flushRows_congr {s x : State} {l : Lane}
    (h : (x.former l).slots = (s.former l).slots ∧ (x.former l).upstream = (s.former l).upstream) :
    flushRows x l = flushRows s l := by rw [flushRows, flushRows, heldHalves, heldHalves, h.1, h.2]

theorem flushed_congr {s x : State} {l : Lane}
    (h : (x.former l).slots = (s.former l).slots ∧ (x.former l).upstream = (s.former l).upstream) :
    x.flushed l = s.flushed l := by rw [flushed_eq, flushed_eq, heldHalves, heldHalves, h.1, h.2]

theorem flushRows_lane {s : State} {l : Lane} (slots : SlotsOk s) (lists : ListsOk s) : ∀ r ∈ flushRows s l, r.lane = l := by
  intro r hr
  have mem := (flushRows_perm s l).subset hr
  rw [State.flushed, List.mem_append, List.mem_filterMap] at mem
  rcases mem with listed | ⟨c, hc, held⟩
  · exact lists l r listed
  · obtain ⟨m, hm, rfl⟩ := Option.map_eq_some_iff.mp held
    have own : m.ch = c := slots c m hm
    have lane : c.lane = l := by simp at hc; rcases hc with rfl | rfl | rfl | rfl <;> rfl
    rw [oneTrackOf, own, lane]

/-! ### The flush of one former -/

/-- A former with its slots and list emptied, its row pulses in hand. -/
def emptyFormer (l : Lane) (s : State) : State := s.withFormer l { s.former l with slots := .all .empty, upstream := [] }

/-- The flush up to the check of DEFERRED: the row pulses handed on, then the notice. -/
def flushHanded (l : Lane) (s : State) : State := disturb l VFlag.linkLoss (handUnpairedAll (flushRows s l) (emptyFormer l s))

theorem flushFormer_eq (l : Lane) (s : State) : flushFormer l s = deferChecks s (flushHanded l s) := rfl

/-- Where one lane's list alone has changed, the check is that lane's. -/
theorem deferChecks_only {l : Lane} {s t : State} (h : ∀ k, k ≠ l → (s.former k).upstream = (t.former k).upstream) :
    deferChecks s t = if (s.former l).upstream = (t.former l).upstream then t else deferCheck l t := by
  have one := h .one; have two := h .two; have three := h .three
  cases l <;> simp [deferChecks, Lane.all, -State.former_eq] at * <;> simp [*, -State.former_eq]

theorem emptyFormer_own (l : Lane) (s : State) : ((emptyFormer l s).former l).isEmpty := by
  simp [emptyFormer, AxleFormer.isEmpty]

theorem emptyFormer_other {l k : Lane} (h : k ≠ l) (s : State) : (emptyFormer l s).former k = s.former k := by
  simp [emptyFormer, h]

section flush
variable (l : Lane) (s : State)

theorem flushHanded_health : HealthOnly (emptyFormer l s) (flushHanded l s) :=
  (handUnpairedAll_health _ _).trans (healthOnly_of_frame (disturb_frame _ _ _) (by decide))

theorem deferChecks_axf (before : State) : (deferChecks before s).axf = s.axf := deferChecks_frame before s .axf (by decide)

theorem flushFormer_health : HealthOnly (emptyFormer l s) (flushFormer l s) :=
  (flushHanded_health l s).trans (healthOnly_of_frame (deferChecks_frame s _) (by decide))

theorem flushFormer_own : ((flushFormer l s).former l).isEmpty :=
  ⟨((flushFormer_health l s).slots l).trans (emptyFormer_own l s).1,
    ((flushFormer_health l s).upstream l).trans (emptyFormer_own l s).2⟩

/-- Every other former keeps what it holds. -/
theorem flushFormer_other {k : Lane} (h : k ≠ l) :
    ((flushFormer l s).former k).slots = (s.former k).slots ∧ ((flushFormer l s).former k).upstream = (s.former k).upstream := by
  rw [(flushFormer_health l s).slots k, (flushFormer_health l s).upstream k, emptyFormer_other h]; exact ⟨rfl, rfl⟩

theorem flushFormer_checks : flushFormer l s =
    if (s.former l).upstream = [] then flushHanded l s else deferCheck l (flushHanded l s) := by
  have own : ((flushHanded l s).former l).upstream = [] := ((flushHanded_health l s).upstream l).trans (emptyFormer_own l s).2
  rw [flushFormer_eq, deferChecks_only (l := l), own]
  intro k h
  rw [(flushHanded_health l s).upstream k, emptyFormer_other h]

theorem flushHanded_latches : OnlyLatched s (flushHanded l s) :=
  ((onlyLatched_of_frame (withFormer_frame l _ s) (by decide)).trans (handUnpairedAll_latches _ _)).trans (disturb_latches l _ _)

theorem flushFormer_latches : OnlyLatched s (flushFormer l s) := (flushHanded_latches l s).trans (deferChecks_latches _ _)

theorem flushFormer_undeferred : Undeferred s (flushFormer l s) :=
  (((undeferred_of_vb (withFormer_frame l _ s .vb (by decide))).trans (handUnpairedAll_undeferred _ _)).trans
    (disturb_undeferred l _ _)).trans (deferChecks_undeferred _ _)

/-- With its list empty a lane's vehicle has nothing to wait for. -/
theorem deferCheck_empty {t : State} (h : (t.former l).upstream = []) :
    deferCheck l t = if (t.ctx l).state = .deferred then sealInto l 0 .idle t else t := by
  have none : olderPending t l = false := by rw [olderPending, h]; rfl
  rw [deferCheck, none, Bool.not_false, Bool.and_true]
  simp only [decide_eq_true_eq]

theorem flushHanded_list : ((flushHanded l s).former l).upstream = [] :=
  ((flushHanded_health l s).upstream l).trans (emptyFormer_own l s).2

theorem flushFormer_lets_go (h : (s.former l).upstream ≠ []) : ((flushFormer l s).ctx l).state ≠ .deferred := by
  rw [flushFormer_checks, if_neg h, deferCheck_empty l (flushHanded_list l s)]
  split
  · rw [sealInto_ctx, if_pos rfl]; split <;> exact fun e => CtxState.noConfusion e
  · assumption

end flush

section flushOwn
variable {l : Lane} {s : State} (own : ∀ r ∈ flushRows s l, r.lane = l)
include own

theorem flushFormer_apart {k : Lane} (h : k ≠ l) : (flushFormer l s).former k = s.former k := by
  have checks : (flushFormer l s).former k = (flushHanded l s).former k := by
    rw [State.former, flushFormer_eq, deferChecks_axf]; rfl
  have notice : (flushHanded l s).former k = (handUnpairedAll (flushRows s l) (emptyFormer l s)).former k :=
    congrArg (fun f => PerLane.get f k)
      (disturb_frame l VFlag.linkLoss (handUnpairedAll (flushRows s l) (emptyFormer l s)) .axf (by decide))
  rw [checks, notice, handUnpairedAll_apart h _ _ own, emptyFormer_other h]

theorem flushFormer_counts : MissesCounted (ownRows (s.flushed l)) s.misses s (flushFormer l s) l := by
  have handed := handUnpairedAll_counts (flushRows s l) (emptyFormer l s) own
  have same : ∀ c : Channel, c.lane = l → (emptyFormer l s).misses c = s.misses c := fun c hc => by
    simp [State.misses, emptyFormer, hc]
  have rows : (ownRows (flushRows s l)).Perm (ownRows (s.flushed l)) := (flushRows_perm s l).filter _
  have counts := (handed.earlier (withFormer_frame l _ s .sst (by decide)) same).perm rows
  have after : OnlyLatched (handUnpairedAll (flushRows s l) (emptyFormer l s)) (flushFormer l s) :=
    (disturb_latches l _ VFlag.linkLoss).trans (deferChecks_latches _ s)
  have axf : (flushFormer l s).axf = (handUnpairedAll (flushRows s l) (emptyFormer l s)).axf := by
    rw [flushFormer_eq, deferChecks_axf]
    exact disturb_frame l VFlag.linkLoss _ .axf (by decide)
  exact counts.later (by rw [State.former, State.former, axf]) after.kept

end flushOwn

/-! ### What a lane's builder makes of a flush -/

/-- A vehicle after a disturbance is a continuation that has no axle yet. -/
theorem disturb_leaves_continuation {l : Lane} {flag : BitVec 24} {s : State} (h : ((disturb l flag s).ctx l).state ≠ .idle) :
    ((disturb l flag s).ctx l).dropped = true := by
  by_cases idle : (s.ctx l).state = .idle
  · rw [disturb_idle idle] at h; exact absurd idle h
  rw [disturb_open idle, sealInto_ctx, if_pos rfl] at h ⊢
  by_cases d : (s.ctx l).dropped = true
  · rw [if_pos d] at h; exact absurd rfl h
  · rw [if_neg d]; rfl

/-- The builder after the row pulses of a flush have arrived and the notice has been taken. -/
def noticed (l : Lane) (s : State) : State := disturb l VFlag.linkLoss (s.arrivals l ((flushRows s l).map (unpairedAxle s)))

/-- The flush as the builder sees it. -/
def flushSeen (l : Lane) (s : State) : State :=
  if (s.former l).upstream ≠ [] ∧ ((noticed l s).ctx l).state = .deferred then (noticed l s).withCtx l .idle else noticed l s

theorem flushSeen_taken (l : Lane) (s : State) : FlushTaken l s (flushSeen l s) := by
  refine ⟨flushRows s l, (flushRows s l).map (unpairedAxle s), noticed l s, flushRows_perm s l, fun order near => ?_, ?_,
    disturb_next l _ _, rfl⟩
  · exact insertAll_inOrder (s := s) (fun e he => near e (by rw [flushed_eq]; exact he)) order
  · rw [List.forall₂_map_right_iff]
    exact List.forall₂_same.mpr fun r _ => unpairedAxle_of s r

theorem flushSeen_frame (l : Lane) (s : State) : AgreeOutside sealingChanges s (flushSeen l s) := by
  have noticed : AgreeOutside sealingChanges s (noticed l s) := (arrivals_frame l _ s).trans (disturb_frame l _ _)
  exact agreeOutside_ite _ (noticed.trans ((withCtx_frame l _ _).mono (by decide))) noticed

theorem flushFormer_seen {l : Lane} {s x : State} (alike : Alike s x)
    (held : (x.former l).slots = (s.former l).slots ∧ (x.former l).upstream = (s.former l).upstream)
    (own : ∀ r ∈ flushRows s l, r.lane = l) : Alike (flushSeen l s) (flushFormer l x) := by
  have rows : flushRows x l = flushRows s l := flushRows_congr held
  have emptied : Alike s (emptyFormer l x) := alike.trans (alike_of_frame (withFormer_frame l _ x) (by decide))
  have seen : Alike (noticed l s) (flushHanded l x) := by
    rw [flushHanded, rows]
    exact (handUnpairedAll_alike _ own emptied).disturb l _
  have ctx : (flushHanded l x).ctx l = (noticed l s).ctx l := congrArg (fun vb => (PerLane.get vb l).ctx) (seen .vb (by decide))
  rw [flushSeen, flushFormer_checks, held.2]
  by_cases empty : (s.former l).upstream = []
  · rw [if_pos empty, if_neg fun h => h.1 empty]; exact seen
  rw [if_neg empty, deferCheck_empty l (flushHanded_list l x), ctx]
  by_cases d : ((noticed l s).ctx l).state = .deferred
  · rw [if_pos d, if_pos ⟨empty, d⟩, sealInto_dropped]
    · exact seen.withCtx l .idle
    · rw [ctx]; exact disturb_leaves_continuation (by rw [← noticed, d]; exact fun e => CtxState.noConfusion e)
  · rw [if_neg d, if_neg fun h => d h.2]; exact seen

end Sys2Proof.Machine
end

section
/-! A link loss along the whole data path (R19), and with it LINK_SILENCE and the framing error (R13, R14). -/

namespace Sys2Proof.Machine

/-! ### The notice, block by block -/

theorem linkLoss_eq (c : Conditioner) : c.linkLoss = if c.state = .disabled then c else { c with
    state := .acquire, acq := 0, hist := [], tail := 0, com := .clear, ten := .clear, due := .none } := rfl

/-- The conditioners told of a link loss. -/
def conditionersTold (s : State) : State := s.withCc (mapCh (fun _ c => c.linkLoss) s.cc)

/-- The formers flushed in lane order (log 36). -/
def flushed1 (s : State) : State := flushFormer .one (conditionersTold s)
def flushed2 (s : State) : State := flushFormer .two (flushed1 s)
def flushed3 (s : State) : State := flushFormer .three (flushed2 s)

theorem noticePath_eq (s : State) : noticePath s = (flushed3 s).withPtm (flushed3 s).ptm.linkLoss := rfl

section path
variable (s : State)

theorem noticePath_of_frame (x : Part) (h : x ∉ formerChanges) (hp : x ≠ .ptm) : Agree (conditionersTold s) (noticePath s) x := by
  have frame : AgreeOutside formerChanges (conditionersTold s) (flushed3 s) :=
    ((flushFormer_frame .one _).trans (flushFormer_frame .two _)).trans (flushFormer_frame .three _)
  exact (frame.mono (M := .ptm :: formerChanges) (fun y hy => List.mem_cons_of_mem _ hy)).trans
    ((withPtm_frame _ _).mono (by simp)) x (by simp [h, hp])

theorem noticePath_conditioner (c : Channel) : (noticePath s).conditioner c = (s.conditioner c).linkLoss := by
  have cc : (noticePath s).cc = (conditionersTold s).cc := noticePath_of_frame s .cc (by decide) (by decide)
  rw [State.conditioner, cc]; simp [conditionersTold]

theorem noticePath_latches : OnlyLatched s (noticePath s) :=
  (((onlyLatched_of_frame (withCc_frame _ s) (by decide)).trans (flushFormer_latches .one _)).trans
    ((flushFormer_latches .two _).trans (flushFormer_latches .three _))).trans (onlyLatched_of_frame (withPtm_frame _ _) (by decide))

theorem noticePath_ptm : (noticePath s).ptm = s.ptm.linkLoss := by
  have frame : AgreeOutside formerChanges (conditionersTold s) (flushed3 s) :=
    ((flushFormer_frame .one _).trans (flushFormer_frame .two _)).trans (flushFormer_frame .three _)
  have ptm : (flushed3 s).ptm = s.ptm := frame .ptm (by decide)
  rw [noticePath_eq, State.withPtm_ptm, ptm]

/-- What each former holds at its turn and when the path is through. -/
theorem flushed1_holds (k : Lane) (h : k ≠ .one) :
    ((flushed1 s).former k).slots = (s.former k).slots ∧ ((flushed1 s).former k).upstream = (s.former k).upstream :=
  flushFormer_other .one (conditionersTold s) h

theorem flushed2_holds (k : Lane) (h : k ≠ .one) (h' : k ≠ .two) :
    ((flushed2 s).former k).slots = (s.former k).slots ∧ ((flushed2 s).former k).upstream = (s.former k).upstream := by
  obtain ⟨slots, list⟩ := flushFormer_other .two (flushed1 s) h'
  obtain ⟨slots1, list1⟩ := flushed1_holds s k h
  exact ⟨slots.trans slots1, list.trans list1⟩

theorem isEmpty_other {l k : Lane} (h : k ≠ l) {s : State} (e : (s.former k).isEmpty) : ((flushFormer l s).former k).isEmpty := by
  obtain ⟨slots, list⟩ := flushFormer_other l s h
  exact ⟨slots.trans e.1, list.trans e.2⟩

theorem noticePath_former (l : Lane) : ((noticePath s).former l).isEmpty := by
  show ((flushed3 s).former l).isEmpty
  cases l
  · exact isEmpty_other (by decide) (isEmpty_other (by decide) (flushFormer_own .one (conditionersTold s)))
  · exact isEmpty_other (by decide) (flushFormer_own .two (flushed1 s))
  · exact flushFormer_own .three (flushed2 s)

theorem noticePath_lets_go (l : Lane) (h : (s.former l).upstream ≠ []) : ((noticePath s).ctx l).state ≠ .deferred := by
  show ((flushed3 s).ctx l).state ≠ .deferred
  cases l
  · exact fun d => flushFormer_lets_go .one (conditionersTold s) h
      (flushFormer_undeferred .two _ .one (flushFormer_undeferred .three _ .one d))
  · refine fun d => flushFormer_lets_go .two (flushed1 s) ?_ (flushFormer_undeferred .three _ .two d)
    rwa [(flushed1_holds s .two (by decide)).2]
  · refine flushFormer_lets_go .three (flushed2 s) ?_
    rwa [(flushed2_holds s .three (by decide) (by decide)).2]

end path

/-! ### The notice with every former empty -/

theorem emptyFormer_of_isEmpty {l : Lane} {s : State} (h : (s.former l).isEmpty) : emptyFormer l s = s := by
  have same : { s.former l with slots := .all .empty, upstream := [] } = s.former l := by
    obtain ⟨slots, list⟩ := h
    cases hf : s.former l; simp_all
  rw [emptyFormer, same]
  cases l <;> rfl

theorem flushFormer_of_isEmpty {l : Lane} {s : State} (h : (s.former l).isEmpty) : flushFormer l s = disturb l VFlag.linkLoss s := by
  have rows : flushRows s l = [] := by rw [flushRows, heldHalves, h.1, h.2]; rfl
  rw [flushFormer_checks, if_pos h.2, flushHanded, rows, emptyFormer_of_isEmpty h]; rfl

theorem noticePath_disturbs {s x : State} (alike : Alike s x) (empty : ∀ l, (x.former l).isEmpty) (l : Lane) :
    Disturbed VFlag.linkLoss s (noticePath x) l := by
  have one : LaneDisturbed VFlag.linkLoss .one (conditionersTold x) (flushed1 x) := by
    rw [flushed1, flushFormer_of_isEmpty (s := conditionersTold x) (empty .one)]; exact disturb_lane _ _ _
  have empty1 (k : Lane) (h : k ≠ .one) : ((flushed1 x).former k).isEmpty := isEmpty_other h (empty k)
  have two : LaneDisturbed VFlag.linkLoss .two (flushed1 x) (flushed2 x) := by
    rw [flushed2, flushFormer_of_isEmpty (empty1 .two (by decide))]; exact disturb_lane _ _ _
  have three : LaneDisturbed VFlag.linkLoss .three (flushed2 x) (flushed3 x) := by
    have empty2 : ((flushed2 x).former .three).isEmpty := isEmpty_other (by decide) (empty1 .three (by decide))
    rw [flushed3, flushFormer_of_isEmpty empty2]; exact disturb_lane _ _ _
  have told : Disturbed VFlag.linkLoss (conditionersTold x) (flushed3 x) l := by
    obtain ⟨first, second, third⟩ := turns one.toLaneStep two.toLaneStep three.toLaneStep
    cases l
    · exact one.disturbed first (by decide)
    · exact two.disturbed second (by decide)
    · exact three.disturbed third (by decide)
  obtain ⟨k, c, f, q, rfl⟩ := alike.shape
  exact told

/-! ### The notice lane by lane -/

section lanes
variable {s x : State} (alike : Alike s x) (axf : x.axf = s.axf) (slots : SlotsOk s) (lists : ListsOk s)
include alike axf slots lists

/-- Each lane in turn takes its flush, the formers of the lanes after it being as they were. -/
theorem noticePath_flushes : ∃ a b c, FlushTaken .one s a ∧ FlushTaken .two a b ∧ FlushTaken .three b c ∧ Alike c (flushed3 x) := by
  have seenAxf (l : Lane) (u : State) : (flushSeen l u).axf = u.axf := flushSeen_frame l u .axf (by decide)
  have own (l : Lane) {u : State} (e : u.axf = s.axf) : ∀ r ∈ flushRows u l, r.lane = l := by
    rw [flushRows, State.former, e]; exact flushRows_lane slots lists
  have axf1 : (flushSeen .one s).axf = s.axf := seenAxf .one s
  have axf2 : (flushSeen .two (flushSeen .one s)).axf = s.axf := (seenAxf .two _).trans axf1
  have start : Alike s (conditionersTold x) := alike.trans (alike_of_frame (withCc_frame _ x) (by decide))
  have held (k : Lane) {u v : State} (e : v.axf = s.axf)
      (h : (u.former k).slots = (x.former k).slots ∧ (u.former k).upstream = (x.former k).upstream) :
      (u.former k).slots = (v.former k).slots ∧ (u.former k).upstream = (v.former k).upstream := by
    have told : x.former k = v.former k := by rw [State.former, axf, ← e]; rfl
    rwa [told] at h
  have alike1 : Alike (flushSeen .one s) (flushed1 x) := flushFormer_seen start (held .one rfl ⟨rfl, rfl⟩) (own .one rfl)
  have alike2 : Alike (flushSeen .two (flushSeen .one s)) (flushed2 x) :=
    flushFormer_seen alike1 (held .two axf1 (flushed1_holds x .two (by decide))) (own .two axf1)
  have alike3 : Alike (flushSeen .three (flushSeen .two (flushSeen .one s))) (flushed3 x) :=
    flushFormer_seen alike2 (held .three axf2 (flushed2_holds x .three (by decide) (by decide))) (own .three axf2)
  exact ⟨_, _, _, flushSeen_taken .one s, flushSeen_taken .two _, flushSeen_taken .three _, alike3⟩

/-- Each lane's counts are moved by its own flush alone. -/
theorem noticePath_counts (l : Lane) : MissesCounted (ownRows (s.flushed l)) s.misses s (noticePath x) l := by
  have start : Alike s (conditionersTold x) := alike.trans (alike_of_frame (withCc_frame _ x) (by decide))
  have held (k : Lane) {u : State} (h : (u.former k).slots = (x.former k).slots ∧ (u.former k).upstream = (x.former k).upstream) :
      (u.former k).slots = (s.former k).slots ∧ (u.former k).upstream = (s.former k).upstream := by
    have told : x.former k = s.former k := by rw [State.former, axf]; rfl
    rwa [told] at h
  have held1 := held .one (u := conditionersTold x) ⟨rfl, rfl⟩
  have held2 := held .two (flushed1_holds x .two (by decide))
  have held3 := held .three (flushed2_holds x .three (by decide) (by decide))
  have own (k : Lane) {u : State} (h : (u.former k).slots = (s.former k).slots ∧ (u.former k).upstream = (s.former k).upstream) :
      ∀ r ∈ flushRows u k, r.lane = k := by rw [flushRows_congr h]; exact flushRows_lane slots lists
  have sst1 : (conditionersTold x).sst = s.sst := start .sst (by decide)
  have sst2 : (flushed1 x).sst = s.sst := (flushFormer_frame .one _ .sst (by decide)).trans sst1
  have sst3 : (flushed2 x).sst = s.sst := (flushFormer_frame .two _ .sst (by decide)).trans sst2
  have end3 : OnlyLatched (flushed3 x) (noticePath x) := onlyLatched_of_port rfl
  have end2 : OnlyLatched (flushed2 x) (noticePath x) := (flushFormer_latches .three _).trans end3
  have end1 : OnlyLatched (flushed1 x) (noticePath x) := (flushFormer_latches .two _).trans end2
  have kept2 (k : Lane) (h : k ≠ .one) : (flushed1 x).former k = s.former k := by
    rw [flushed1, flushFormer_apart (own .one held1) h]; simp [conditionersTold, axf]
  have kept3 (k : Lane) (h : k ≠ .two) : (flushed2 x).former k = (flushed1 x).former k := flushFormer_apart (own .two held2) h
  have kept4 (k : Lane) (h : k ≠ .three) : (noticePath x).former k = (flushed2 x).former k := flushFormer_apart (own .three held3) h
  have misses {k : Lane} {u : State} (e : u.former k = s.former k) (c : Channel) (hc : c.lane = k) : u.misses c = s.misses c := by
    rw [State.misses, State.misses, hc, e]
  cases l
  · have counts := flushFormer_counts (own .one held1)
    rw [flushed_congr held1] at counts
    refine (counts.earlier sst1 (misses ?_)).later ?_ end1.kept
    · simp [conditionersTold, axf]
    · rw [kept4 _ (by decide), kept3 _ (by decide)]; rfl
  · have counts := flushFormer_counts (own .two held2)
    rw [flushed_congr held2] at counts
    refine (counts.earlier sst2 (misses (kept2 _ (by decide)))).later ?_ end2.kept
    rw [kept4 _ (by decide)]; rfl
  · have counts := flushFormer_counts (own .three held3)
    rw [flushed_congr held3] at counts
    exact (counts.earlier sst3 (misses ((kept3 _ (by decide)).trans (kept2 _ (by decide))))).later rfl end3.kept

end lanes

/-- A link loss told along the data path (R19), seen from a state in which only the link differs. -/
theorem noticePath_empties {s x : State} (alike : Alike s x) (cc : x.cc = s.cc) (axf : x.axf = s.axf)
    (latched : ∀ p, x.latched .scanLink p) : DataPathEmptied s (noticePath x) := by
  have told (l : Lane) : x.former l = s.former l := by rw [State.former, axf]; rfl
  have ptm : (noticePath x).ptm = s.ptm.linkLoss := by rw [noticePath_ptm, show x.ptm = s.ptm from alike .ptm (by decide)]
  refine ⟨fun c => ?_, fun l => ⟨noticePath_former x l, fun h => noticePath_lets_go x l (by rwa [told])⟩, ?_, fun p => ?_, ?_, ?_,
    fun p => ((noticePath_latches x).kept p).1 _ (latched p), fun empty => noticePath_disturbs alike fun l => by rw [told]; exact empty l,
    fun slots lists => ⟨noticePath_counts alike axf slots lists, ?_⟩⟩
  · rw [noticePath_conditioner, linkLoss_eq, State.conditioner, cc]; rfl
  · rw [ptm]; rfl
  · rw [ptm]; simp [TempMonitor.linkLoss]
  · rw [ptm]; rfl
  · rw [ptm]; rfl
  · obtain ⟨a, b, c, one, two, three, seen⟩ := noticePath_flushes alike axf slots lists
    exact ⟨a, b, c, one, two, three, seen .vb (by decide), seen .vehicleNumber (by decide), seen .rst (by decide),
      seen .dtk (by decide), seen .rru (by decide)⟩

/-- What comes after the notice and leaves the blocks it emptied alone. -/
theorem DataPathEmptied.later {s t u : State} (h : DataPathEmptied s t)
    (frame : ∀ x ∈ [Part.cc, .axf, .vb, .vehicleNumber, .ptm, .dtk, .rru, .rst], Agree t u x)
    (active : u.sst.active = t.sst.active) (kept : LatchesKept t u) : DataPathEmptied s u := by
  have cc : u.cc = t.cc := frame .cc (by decide)
  have axf : u.axf = t.axf := frame .axf (by decide)
  have vb : u.vb = t.vb := frame .vb (by decide)
  have number : u.vehicleNumber = t.vehicleNumber := frame .vehicleNumber (by decide)
  have ptm : u.ptm = t.ptm := frame .ptm (by decide)
  have dtk : u.dtk = t.dtk := frame .dtk (by decide)
  have rru : u.rru = t.rru := frame .rru (by decide)
  have rst : u.rst = t.rst := frame .rst (by decide)
  obtain ⟨conditioners, formers, slot, sums, lanes, discards, latched, disturbed, lanewise⟩ := h
  refine ⟨by simpa only [State.conditioner, cc] using conditioners,
    by simpa only [State.former, State.ctx, State.builder, axf, vb] using formers,
    by rw [ptm]; exact slot, by rw [ptm]; exact sums, by rw [ptm]; exact lanes, by rw [ptm]; exact discards,
    fun p => (kept p).1 _ (latched p), ?_, fun slots lists => ?_⟩
  · simpa only [Disturbed, State.builder, State.ctx, State.laneSet, State.settings, State.generation, vb, active, rst] using disturbed
  · obtain ⟨counts, a, b, c, one, two, three, ends⟩ := lanewise slots lists
    refine ⟨fun l => (counts l).later (by rw [State.former, State.former, axf]) kept, a, b, c, one, two, three, ?_⟩
    rw [vb, number, rst, dtk, rru]; exact ends

/-! ### Leaving RUNNING -/

/-- The link as a loss leaves it, before the notice. -/
def linkLost (k : LinkState) (s : State) : State := latchDetail .scanLink (s.withSlr { s.slr.emptied with state := k })

theorem leaveRunning_eq (k : LinkState) (s : State) : leaveRunning k s = noticePath (linkLost k s) := rfl

theorem leaveRunning_slr (k : LinkState) (s : State) : (leaveRunning k s).slr = { s.slr.emptied with state := k } :=
  (noticePath_of_frame (linkLost k s) .slr (by decide) (by decide) :)

/-- The link leaves RUNNING and the whole data path is emptied (R19), seen from a state in which the link alone differs. -/
theorem leaveRunning_empties {s x : State} (h : AgreeOutside [.slr] s x) (k : LinkState) : DataPathEmptied s (leaveRunning k x) := by
  have lost : AgreeOutside [.slr, .port] s (linkLost k x) :=
    (h.mono (by decide)).trans (((withSlr_frame _ x).mono (by decide)).trans ((latchDetail_frame _ _).mono (by decide)))
  exact noticePath_empties (alike_of_frame lost (by decide)) (lost .cc (by decide)) (lost .axf (by decide)) fun p =>
    latchDetail_latched _ _ p

/-! ### The framing error (R13) -/

theorem evalMargin_latches (s : State) : OnlyLatched s (evalMargin s) :=
  (onlyLatched_of_frame (withSlr_frame _ s) (by decide)).trans
    ((latchDetailIf_latches _ _ _).trans ((latchDetailIf_latches _ _ _).trans (latchDetailIf_latches _ _ _)))

theorem enterRunning_latches (marker : List Word16) (s : State) : OnlyLatched s (enterRunning marker s) :=
  (onlyLatched_of_frame (withSlr_frame _ s) (by decide)).trans (evalMargin_latches _)

theorem alignArrival_latches (tagged : Bool) (v : Word16) (s : State) : OnlyLatched s (alignArrival tagged v s) := by
  cases mode : s.site.linkMode with
  | wide => rw [alignArrival_wide mode]; exact onlyLatched_ite (enterRunning_latches _ s) (.refl s)
  | narrow =>
    rw [alignArrival_narrow mode]
    exact onlyLatched_ite (onlyLatched_ite (enterRunning_latches _ s) (onlyLatched_of_frame (withSlr_frame _ s) (by decide)))
      (onlyLatched_of_frame (withSlr_frame _ s) (by decide))

/-- An arrival that does not fit its place in a scan (R13). -/
theorem runningArrival_misplaced {s : State} {tagged : Bool}
    (h : tagged ≠ decide (s.slr.partialScan.length < markerUnits s.site.linkMode)) (v : Word16) :
    runningArrival tagged v s = alignArrival tagged v (leaveRunning .aligning s) := by
  rw [runningArrival]; exact if_neg h

/-- In a search just begun an untagged arrival leaves it there, and a tagged half is the first of two (R12). -/
theorem alignArrival_searches {s : State} {tagged : Bool} (new : s.slr.halfMarker = false)
    (h : tagged = false ∨ s.site.linkMode = .narrow) (v : Word16) :
    (alignArrival tagged v s).slr = { s.slr with halfMarker := tagged } := by
  cases mode : s.site.linkMode with
  | wide =>
    obtain rfl : tagged = false := h.resolve_right (by rw [mode]; exact fun e => LinkMode.noConfusion e)
    rw [alignArrival_wide mode, if_neg (by decide), ← new]
  | narrow =>
    rw [alignArrival_narrow mode, new]
    cases tagged <;> rfl

/-- Settles O13. -/
theorem linkLossEmptiesDataPath : Obligations.LinkLossEmptiesDataPath := by
  refine ⟨fun s silent up => ⟨linkSilence s, rfl, ?_⟩, fun s tagged v running misplaced =>
    ⟨linkArrival tagged v s, rfl, ?_⟩⟩
  · have due : ¬ s.slr.silence < silenceStrobes := by rw [silent]; decide
    cases hs : s.slr.state with
    | down => exact absurd hs up
    | aligning =>
      have e : linkSilence s = s.withSlr { s.slr with state := .down, partialScan := [], halfMarker := false } := by
        rw [linkSilence, if_neg due, hs]
      rw [e]
      exact ⟨rfl, rfl, rfl, rfl, rfl, fun _ => withSlr_frame _ s, nofun⟩
    | running =>
      have e : linkSilence s = leaveRunning .down s := by rw [linkSilence, if_neg due, hs]
      rw [e, leaveRunning_slr]
      exact ⟨rfl, rfl, rfl, rfl, rfl, nofun, fun _ =>
        ⟨rfl, rfl, rfl, leaveRunning_empties (.refl _ s) .down, leaveRunning_frame _ s⟩⟩
  · have misplaced' : tagged ≠ decide (s.heard.slr.partialScan.length < markerUnits s.heard.site.linkMode) := by
      rw [markerUnits_eq]; exact misplaced
    generalize hx : leaveRunning .aligning s.heard = x
    have frame : AgreeOutside trafficChanges s x := by
      rw [← hx]; exact ((heard_frame s).mono (by decide)).trans (leaveRunning_frame _ _)
    have site : x.site = s.site := congrArg (fun k => k.active.settings.site) (frame .sst (by decide))
    have slr : x.slr = { s.heard.slr.emptied with state := .aligning } := by rw [← hx]; exact leaveRunning_slr _ _
    have emptied : DataPathEmptied s x := by rw [← hx]; exact leaveRunning_empties (heard_frame s) .aligning
    have after : AgreeOutside [.slr, .port] x (alignArrival tagged v x) := alignArrival_frame tagged v x
    rw [linkArrival_running running, runningArrival_misplaced misplaced', hx]
    have searches (h : tagged = false ∨ s.site.linkMode = .narrow) := alignArrival_searches (by rw [slr]; rfl) (by rwa [site]) v (s := x)
    have starts (h : tagged = true) (wide : s.site.linkMode = .wide) : alignArrival tagged v x = enterRunning [v] x := by
      rw [alignArrival_wide (by rw [site]; exact wide), if_pos h]
    have kept : (alignArrival tagged v x).slr.rd = s.slr.rd ∧ (alignArrival tagged v x).slr.silence = 0 ∧
        (alignArrival tagged v x).slr.slips = s.slr.slips := by
      by_cases h : tagged = true ∧ s.site.linkMode = .wide
      · obtain ⟨m1, m2, e⟩ := enterRunning_slr [v] x
        rw [starts h.1 h.2, e, slr]; exact ⟨rfl, rfl, rfl⟩
      · have untagged : tagged = false ∨ s.site.linkMode = .narrow := by
          cases tagged <;> cases hm : s.site.linkMode <;> simp_all
        rw [searches untagged, slr]; exact ⟨rfl, rfl, rfl⟩
    obtain ⟨rd, silence, slips⟩ := kept
    refine ⟨rd, silence, slips, fun h => ?_, fun h wide => ?_, emptied.later (fun y hy => after y ?_) (congrArg _ (after .sst (by decide)))
      (alignArrival_latches _ _ _).kept, frame.trans (after.mono (by decide))⟩
    · rw [searches h, slr]; exact ⟨rfl, rfl, rfl, rfl, rfl⟩
    · obtain ⟨m1, m2, e⟩ := enterRunning_slr [v] x
      rw [starts h wide, e, site]; exact ⟨rfl, rfl, rfl⟩
    · revert y; decide

end Sys2Proof.Machine
end

section
/-! What a committed change does to each block (R40, R68, R81, R88, R103, R129, R139, R164, R180). -/

namespace Sys2Proof.Machine

/-! ### The builders told of a rise (R103) -/

theorem hasStraddle_iff (c : Context) : c.hasStraddle = true ↔ ∃ h ∈ c.axles, hasAny h.axle.flags AFlag.straddle = true := by
  simp [Context.hasStraddle]

/-- Whether a rise disturbs a lane's vehicle. -/
def riseDisturbs (affected : Bool) (l : Lane) (s : State) : Bool := affected || (s.ctx l).hasStraddle

theorem riseNotice_disturbs {affected : Bool} {l : Lane} {s : State} (h : riseDisturbs affected l s = true) :
    riseNotice affected l s = disturb l VFlag.settingsChanged s := by
  by_cases idle : (s.ctx l).state = .idle
  · rw [disturb_idle idle, riseNotice]; exact if_pos idle
  · rw [riseNotice]; exact (if_neg idle).trans (if_pos h)

theorem riseNotice_keeps {affected : Bool} {l : Lane} {s : State} (h : ¬ riseDisturbs affected l s = true) :
    riseNotice affected l s = s.withCtx l (if (s.ctx l).state = .idle then s.ctx l else { s.ctx l with stamp := s.generation }) := by
  by_cases idle : (s.ctx l).state = .idle
  · rw [if_pos idle, riseNotice]
    refine (if_pos idle).trans ?_
    cases l <;> rfl
  · rw [if_neg idle, riseNotice]; exact (if_neg idle).trans (if_neg h)

theorem riseNotice_step (affected : Bool) (l : Lane) (s : State) : LaneStep l s (riseNotice affected l s) := by
  by_cases h : riseDisturbs affected l s = true
  · rw [riseNotice_disturbs h]; exact (disturb_lane l _ s).toLaneStep
  · rw [riseNotice_keeps h]; exact .of_withCtx l _ s

/-- A rise taken in a lane's turn. -/
theorem riseNotice_taken {affected : Bool} {l : Lane} {s a t : State} (turn : Turn l s a (riseNotice affected l a) t) :
    RiseTaken (affected = true) s t l := by
  have ctx : a.ctx l = s.ctx l := congrArg Builder.ctx turn.before
  have disturbs : riseDisturbs affected l a = true ↔
      affected = true ∨ ∃ h ∈ (s.ctx l).axles, hasAny h.axle.flags AFlag.straddle = true := by
    rw [riseDisturbs, ctx, Bool.or_eq_true, hasStraddle_iff]
  refine ⟨fun d => ?_, fun d => ?_⟩
  · rw [riseNotice_disturbs (disturbs.mpr d)] at turn
    exact (disturb_lane l VFlag.settingsChanged a).disturbed turn (by decide)
  · have generation : t.generation = a.generation := by rw [State.generation, State.generation, turn.active]
    rw [turn.after, riseNotice_keeps (fun h => d (disturbs.mp h)), generation, ctx, ← turn.before]
    simp

/-- Every lane's builder told of a rise, in lane order. -/
theorem riseNotices_taken (affected : PerLane Bool) (s : State) (l : Lane) :
    RiseTaken (affected.get l = true) s (riseNotices affected s) l := by
  obtain ⟨first, second, third⟩ := turns (riseNotice_step affected.one .one s) (riseNotice_step affected.two .two _)
    (riseNotice_step affected.three .three _)
  cases l
  · exact riseNotice_taken first
  · exact riseNotice_taken second
  · exact riseNotice_taken third

/-- At most one vehicle of each lane is sealed. -/
theorem riseNotices_counts (affected : PerLane Bool) (s : State) : s.rst.queue <+: (riseNotices affected s).rst.queue ∧
    (riseNotices affected s).rst.queue.length ≤ s.rst.queue.length + 3 ∧
    (riseNotices affected s).vehicleNumber ≤ s.vehicleNumber + 3 := by
  have one := riseNotice_step affected.one .one s
  have two := riseNotice_step affected.two .two (riseNotice affected.one .one s)
  have three := riseNotice_step affected.three .three (riseNotice affected.two .two (riseNotice affected.one .one s))
  refine ⟨one.queue.trans (two.queue.trans three.queue), ?_, ?_⟩
  · have q1 := one.one; have q2 := two.one; have q3 := three.one
    exact q3.trans (by omega)
  · have n1 := one.number; have n2 := two.number; have n3 := three.number
    exact n3.trans (by omega)

theorem riseNotices_latches (affected : PerLane Bool) (s : State) : OnlyLatched s (riseNotices affected s) :=
  onlyLatched_foldl _ (fun s l => riseNotice_latches l s _) _ s

/-! ### A vehicle that a rise seals goes to no tracker and no run (R103, R112, R121, R133) -/

theorem announce_unreliable {a : Announcement} (h : a.record.unreliable = true) (s : State) : announce a s = queueTake a s := by
  have run (t : State) : runTake a t = t := by
    rw [runTake]; exact if_neg (by simp [isCandidate, h])
  have drift (t : State) : driftTake a t = t := by
    rw [driftTake]; exact if_neg (by simp [admits, h])
  rw [announce, run, drift]

theorem hasAny_within {w : Nat} {a b m : BitVec w} (h : Within a b) (any : hasAny a m = true) : hasAny b m = true := by
  have join : b = a ||| b := by
    unfold Within at h
    rw [← h]; ext i; simp; exact fun x _ => x
  rw [join]; exact hasAny_or_left any

/-- A sealing with a flag of the unreliable set leaves the trackers and the run alone. -/
theorem sealInto_unreliable {extra : BitVec 24} (h : hasAny extra VFlag.unreliable = true) (l : Lane) (next : Context) (s : State) :
    (sealInto l extra next s).dtk = s.dtk ∧ (sealInto l extra next s).rru = s.rru := by
  by_cases d : (s.ctx l).dropped = true
  · rw [sealInto_dropped d]; exact ⟨rfl, rfl⟩
  generalize ha : announcementOf s l (s.ctx l) extra s.vehicleNumber = a
  have unreliable : a.record.unreliable = true := by
    rw [← ha]; exact hasAny_within (Within.of_or (sealedFlags_within s l (s.ctx l) extra)) h
  have e : sealInto l extra next s = numberAndAnnounce a (s.withCtx l next) := by rw [sealInto, ← ha]; exact if_neg d
  have trigger (v : Verdict) (k : Lane) (t : State) : (triggerOnVerdict k v t).dtk = t.dtk ∧ (triggerOnVerdict k v t).rru = t.rru :=
    ⟨triggerOnVerdict_frame k v t .dtk (by decide), triggerOnVerdict_frame k v t .rru (by decide)⟩
  rw [e]
  by_cases n : (s.withCtx l next).vehicleNumber < 4294967295
  · rw [numbered n, announce_unreliable unreliable, (trigger _ _ _).1, (trigger _ _ _).2]
    exact ⟨queueTake_frame a _ .dtk (by decide), queueTake_frame a _ .rru (by decide)⟩
  · rw [unnumbered (Nat.not_lt.mp n), (trigger _ _ _).1, (trigger _ _ _).2]
    exact ⟨rfl, rfl⟩

theorem riseNotice_takers (affected : Bool) (l : Lane) (s : State) :
    (riseNotice affected l s).dtk = s.dtk ∧ (riseNotice affected l s).rru = s.rru := by
  by_cases h : riseDisturbs affected l s = true
  · rw [riseNotice_disturbs h]
    by_cases idle : (s.ctx l).state = .idle
    · rw [disturb_idle idle]; exact ⟨rfl, rfl⟩
    · rw [disturb_open idle]; exact sealInto_unreliable (by decide) l _ s
  · rw [riseNotice_keeps h]; exact ⟨rfl, rfl⟩

theorem riseNotices_takers (affected : PerLane Bool) (s : State) :
    (riseNotices affected s).dtk = s.dtk ∧ (riseNotices affected s).rru = s.rru := by
  obtain ⟨d1, r1⟩ := riseNotice_takers affected.one .one s
  obtain ⟨d2, r2⟩ := riseNotice_takers affected.two .two (riseNotice affected.one .one s)
  obtain ⟨d3, r3⟩ := riseNotice_takers affected.three .three (riseNotice affected.two .two (riseNotice affected.one .one s))
  exact ⟨d3.trans (d2.trans d1), r3.trans (r2.trans r1)⟩

/-! ### Trackers and run (R129, R139) -/

theorem trackersCommit_tracker (lanes : PerLane Bool) (s : State) (l : Lane) :
    (trackersCommit lanes s).tracker l = if lanes.get l then (s.tracker l).calibrationChanged else s.tracker l := by
  obtain ⟨one, two, three⟩ := lanes
  cases one <;> cases two <;> cases three <;> cases l <;> rfl

theorem runCommit_rru (lanes : PerLane Bool) (s : State) :
    ((∃ l, lanes.get l = true ∧ s.runActive l = true) → (runCommit lanes s).rru = s.rru.finish .aborted) ∧
    ((∀ l, lanes.get l = true → s.runActive l = false) → (runCommit lanes s).rru = s.rru) := by
  refine ⟨fun ⟨l, affected, active⟩ => ?_, fun none => ?_⟩
  · have some : (Lane.all.any fun l => lanes.get l && s.runActive l) = true :=
      List.any_eq_true.mpr ⟨l, by cases l <;> decide, by rw [affected, active]; rfl⟩
    rw [runCommit, endRunIf, if_pos some]; rfl
  · have no : ¬ (Lane.all.any fun l => lanes.get l && s.runActive l) = true := fun h => by
      obtain ⟨l, -, both⟩ := List.any_eq_true.mp h
      obtain ⟨affected, active⟩ := (Bool.and_eq_true _ _).mp both
      exact absurd active (by rw [none l affected]; decide)
    rw [runCommit, endRunIf, if_neg no]

/-! ### Conditioners and formers (R40, R68) -/

theorem settingsChanged_retold (oldFir newFir : Fir) (old new : ChannelSettings) (c : Conditioner) :
    ConditionerRetold oldFir newFir old new c (c.settingsChanged oldFir newFir old new) := by
  unfold ConditionerRetold Conditioner.settingsChanged
  cases old.enabled <;> cases new.enabled <;> rfl

theorem conditionersCommit_retold (old new : Settings) (s : State) (c : Channel) :
    ConditionerRetold (old.lane.get c.lane).fir (new.lane.get c.lane).fir (getCh old.channel c) (getCh new.channel c)
      (s.conditioner c) ((conditionersCommit old new s).conditioner c) := by
  simpa [conditionersCommit] using settingsChanged_retold (old.lane.get c.lane).fir (new.lane.get c.lane).fir
    (getCh old.channel c) (getCh new.channel c) (s.conditioner c)

theorem formersCommit_former (old new : Settings) (s : State) (l : Lane) : (formersCommit old new s).former l = { s.former l with
    miss := (s.former l).miss.mapI fun r d n => missCommit (getCh old.channel ⟨l, r, d⟩) (getCh new.channel ⟨l, r, d⟩) n } := by
  cases l <;> rfl

theorem formersCommit_miss (old new : Settings) (s : State) (c : Channel) :
    ((formersCommit old new s).former c.lane).miss.get c.row c.side =
      if (getCh old.channel c).enabled = true ∧ (getCh new.channel c).enabled = false then 0
      else (s.former c.lane).miss.get c.row c.side := by
  rw [formersCommit_former]
  simp [missCommit]

/-! ### The temperature monitor (R81 to R84, R88) -/

/-- The probes that supply a value. -/
def TempMonitor.goods (m : TempMonitor) : List Probe := Probe.all.filter fun p => (m.probe.get p).state == .good

/-- A probe's filtered value. -/
def TempMonitor.value (m : TempMonitor) (p : Probe) : Int := (m.probe.get p).f.getD 0

section monitor
variable {m : TempMonitor} {map : ProbeMap}

theorem supplied_good {p : Probe} (h : (m.probe.get p).state = .good) : (m.probe.get p).supplied = some (m.value p) := by
  rw [ProbeState.supplied, if_pos h]; rfl

theorem supplied_none {p : Probe} (h : (m.probe.get p).state ≠ .good) : (m.probe.get p).supplied = none := by
  rw [ProbeState.supplied, if_neg h]

theorem goodValues_eq (m : TempMonitor) : m.goodValues = m.goods.map m.value := by
  have each (ps : List Probe) : (ps.filterMap fun p => (m.probe.get p).supplied) =
      (ps.filter fun p => (m.probe.get p).state == .good).map m.value := by
    induction ps with
    | nil => rfl
    | cons p ps ih =>
      by_cases h : (m.probe.get p).state = .good
      · simp [supplied_good h, h, ih]
      · simp [supplied_none h, h, ih]
  exact each Probe.all

theorem not_good_of_none (h : m.goods = []) (p : Probe) : (m.probe.get p).state ≠ .good := by
  have all := List.filter_eq_nil_iff.mp h p (by cases p <;> decide)
  simpa using all

theorem choose_primary (h : (m.probe.get map.primary).state = .good) : m.choose map = some (.primary, m.value map.primary) := by
  simp only [TempMonitor.choose, supplied_good h]

theorem choose_secondary (h : (m.probe.get map.primary).state ≠ .good) (k : (m.probe.get map.secondary).state = .good) :
    m.choose map = some (.secondary, m.value map.secondary) := by
  simp only [TempMonitor.choose, supplied_none h, supplied_good k]

theorem choose_rest (h : (m.probe.get map.primary).state ≠ .good) (k : (m.probe.get map.secondary).state ≠ .good) : m.choose map =
    if m.goods = [] then none else some (.siteMean, Int.tdiv (m.goods.map m.value).sum m.goods.length) := by
  simp only [TempMonitor.choose, supplied_none h, supplied_none k, goodValues_eq]
  by_cases e : m.goods = []
  · rw [if_pos e, e]; rfl
  · rw [if_neg e, if_neg (by simpa using e), List.length_map]

/-- The flags of a lane follow the value it comes to (R84). -/
theorem reevaluated_flags (choice : Option (TempSource × Int)) (a : LaneTemp) :
    (a.reevaluated choice).frost = (if (a.reevaluated choice).value ≤ 10 then true else if 20 ≤ (a.reevaluated choice).value then false
      else a.frost) ∧
    (a.reevaluated choice).hot = (if 550 ≤ (a.reevaluated choice).value then true else if (a.reevaluated choice).value ≤ 530 then false
      else a.hot) := by
  cases choice with
  | some choice => exact ⟨rfl, rfl⟩
  | none =>
    by_cases held : a.source = .held
    · simp only [LaneTemp.reevaluated, if_pos held]; exact ⟨rfl, rfl⟩
    · simp only [LaneTemp.reevaluated, if_neg held]; exact ⟨rfl, rfl⟩

theorem reevaluated_some (a : LaneTemp) (source : TempSource) (v : Int) : (a.reevaluated (some (source, v))).source = source ∧
    (a.reevaluated (some (source, v))).value = v ∧ (a.reevaluated (some (source, v))).held = 0 ∧
    (a.reevaluated (some (source, v))).lostDue = false := ⟨rfl, rfl, rfl, rfl⟩

theorem reevaluated_none (a : LaneTemp) : (a.reevaluated none).source = .held ∧ (a.reevaluated none).value = a.value ∧
    (a.source = .held → (a.reevaluated none).held = a.held ∧ (a.reevaluated none).lostDue = a.lostDue) ∧
    (a.source ≠ .held → (a.reevaluated none).held = 0 ∧ (a.reevaluated none).lostDue = false) := by
  by_cases held : a.source = .held
  · simp only [LaneTemp.reevaluated, if_pos held]
    exact ⟨held, rfl, fun _ => ⟨rfl, rfl⟩, fun no => absurd held no⟩
  · simp only [LaneTemp.reevaluated, if_neg held]
    exact ⟨rfl, rfl, fun yes => absurd yes held, fun _ => ⟨rfl, rfl⟩⟩

/-- A lane re-evaluated from the probes (R82 to R84). -/
theorem reevaluated_spec (m : TempMonitor) (map : ProbeMap) (a : LaneTemp) : LaneReevaluated m map a (a.reevaluated (m.choose map)) := by
  obtain ⟨frost, hot⟩ := reevaluated_flags (m.choose map) a
  refine ⟨fun first => ?_, fun no second => ?_, fun no neither some => ?_, fun none => ?_, frost, hot⟩
  · rw [choose_primary first]; exact reevaluated_some a _ _
  · rw [choose_secondary no second]; exact reevaluated_some a _ _
  · rw [choose_rest no neither, if_neg (by exact some)]; exact reevaluated_some a _ _
  · rw [choose_rest (not_good_of_none none _) (not_good_of_none none _), if_pos (by exact none)]; exact reevaluated_none a

theorem LaneReevaluated.congr {m n : TempMonitor} {map : ProbeMap} {a b : LaneTemp} (h : LaneReevaluated m map a b)
    (e : n.probe = m.probe) : LaneReevaluated n map a b := by
  simpa only [LaneReevaluated, e] using h

/-- A lane's temperature re-evaluated from the probes of a monitor with the lane's map in the active image. -/
def reevaluatedTemp (s : State) (l : Lane) : LaneTemp := (s.laneTemp l).reevaluated (s.ptm.choose (s.laneSet l).probeMap)

theorem choose_congr {n : TempMonitor} (e : n.probe = m.probe) : n.choose map = m.choose map := by
  obtain ⟨_, _, _, _⟩ := n
  obtain rfl := e
  rfl

theorem reevaluateLane_ptm (l : Lane) (s : State) :
    (reevaluateLane l s).ptm = { s.ptm with lane := s.ptm.lane.set l (reevaluatedTemp s l) } := rfl

/-- A lane re-evaluated when a condition of its own holds. -/
def reevaluateIf (P : Lane → Bool) (l : Lane) (s : State) : State := if P l then reevaluateLane l s else s

theorem reevaluateIf_probe (P : Lane → Bool) (l : Lane) (s : State) :
    (reevaluateIf P l s).ptm = { s.ptm with lane := (reevaluateIf P l s).ptm.lane } := by
  rw [reevaluateIf]; split <;> rfl

theorem reevaluateIf_own (P : Lane → Bool) (l : Lane) (s : State) :
    (reevaluateIf P l s).laneTemp l = if P l then reevaluatedTemp s l else s.laneTemp l := by
  rw [reevaluateIf]; split
  · simp [reevaluateLane_ptm]
  · rfl

theorem reevaluateIf_other (P : Lane → Bool) {k l : Lane} (h : k ≠ l) (s : State) : (reevaluateIf P l s).laneTemp k = s.laneTemp k := by
  rw [reevaluateIf]; split
  · simp [reevaluateLane_ptm, h]
  · rfl

theorem reevaluatedTemp_after (P : Lane → Bool) {k l : Lane} (h : k ≠ l) (s : State) :
    reevaluatedTemp (reevaluateIf P l s) k = reevaluatedTemp s k := by
  have sst : (reevaluateIf P l s).sst = s.sst := by rw [reevaluateIf]; split <;> rfl
  rw [reevaluatedTemp, reevaluateIf_other P h, choose_congr (congrArg TempMonitor.probe (reevaluateIf_probe P l s)), State.laneSet,
    State.settings, sst]; rfl

/-- Lanes re-evaluated in order when a condition of theirs holds: each is worked from the probes as they stand. -/
def reevaluateWhere (P : Lane → Bool) (s : State) : State := Lane.all.foldl (fun s l => reevaluateIf P l s) s

theorem reevaluateWhere_probe (P : Lane → Bool) (s : State) :
    (reevaluateWhere P s).ptm = { s.ptm with lane := (reevaluateWhere P s).ptm.lane } := by
  simp only [reevaluateWhere, Lane.all, List.foldl]
  rw [reevaluateIf_probe, reevaluateIf_probe P .two, reevaluateIf_probe P .one]

theorem reevaluateWhere_lane (P : Lane → Bool) (s : State) (l : Lane) :
    (reevaluateWhere P s).laneTemp l = if P l then reevaluatedTemp s l else s.laneTemp l := by
  simp only [reevaluateWhere, Lane.all, List.foldl]
  cases l
  · rw [reevaluateIf_other P (by decide), reevaluateIf_other P (by decide), reevaluateIf_own]
  · rw [reevaluateIf_other P (by decide), reevaluateIf_own, reevaluatedTemp_after P (by decide), reevaluateIf_other P (by decide)]
  · rw [reevaluateIf_own, reevaluatedTemp_after P (by decide), reevaluatedTemp_after P (by decide), reevaluateIf_other P (by decide),
      reevaluateIf_other P (by decide)]

end monitor

/-- The probes of a monitor told of a commit (R88). -/
def probesRetold (old new : Settings) (s : State) : State :=
  latchDetail .probeState (s.withPtm { s.ptm with
    probe := s.ptm.probe.mapI fun p q => if probeItemsChanged old new p then q.settingsChanged else q })

theorem probeItemsChanged_iff (old new : Settings) (p : Probe) :
    probeItemsChanged old new p = true ↔ old.probe.get p ≠ new.probe.get p := by
  simp [probeItemsChanged]

theorem probesRetold_ptm (old new : Settings) (s : State) : (probesRetold old new s).ptm = { s.ptm with
    probe := s.ptm.probe.mapI fun p q => if probeItemsChanged old new p then q.settingsChanged else q } := rfl

theorem monitorCommit_probes {old new : Settings} (h : Probe.all.any (probeItemsChanged old new) = true) (s : State) :
    monitorCommit old new s = reevaluateWhere (fun _ => true) (probesRetold old new s) := by
  rw [monitorCommit, if_pos h]; rfl

theorem monitorCommit_maps {old new : Settings} (h : ¬ Probe.all.any (probeItemsChanged old new) = true) (s : State) :
    monitorCommit old new s = reevaluateWhere (fun l => !decide ((old.lane.get l).probeMap = (new.lane.get l).probeMap)) s := by
  rw [monitorCommit, if_neg h, reevaluateWhere]
  congr 1; funext s l
  rw [reevaluateIf]
  by_cases e : (old.lane.get l).probeMap = (new.lane.get l).probeMap <;> simp [e]

/-- What a re-evaluation among the settings in use comes to (R83). -/
theorem reevaluatedTemp_spec {s t : State} {new : Settings} (inUse : s.settings = new) (probe : t.ptm.probe = s.ptm.probe) (l : Lane)
    (after : t.laneTemp l = reevaluatedTemp s l) : LaneReevaluated t.ptm (new.lane.get l).probeMap (s.laneTemp l) (t.laneTemp l) := by
  rw [after, reevaluatedTemp, State.laneSet, inUse]
  exact (reevaluated_spec s.ptm (new.lane.get l).probeMap (s.laneTemp l)).congr probe

/-- The monitor told of a commit whose settings are in use (R88, R81). -/
theorem monitorCommit_retold {old new : Settings} {s : State} (inUse : s.settings = new) :
    MonitorRetold old new s (monitorCommit old new s) := by
  by_cases h : Probe.all.any (probeItemsChanged old new) = true
  · have ptm := reevaluateWhere_probe (fun _ => true) (probesRetold old new s)
    have probe := congrArg TempMonitor.probe ptm
    have frame : AgreeOutside [.ptm] (probesRetold old new s) (reevaluateWhere (fun _ => true) (probesRetold old new s)) :=
      agreeOutside_foldl _ (fun s l => agreeOutside_ite _ (reevaluateLane_frame l s) (.refl _ s)) _ _
    have port : (reevaluateWhere (fun _ => true) (probesRetold old new s)).port = (probesRetold old new s).port := frame .port (by decide)
    rw [monitorCommit_probes h]
    refine ⟨(congrArg TempMonitor.slotRef ptm :), (congrArg TempMonitor.discards ptm :), fun p => ?_, fun _ => ⟨fun q => ?_, fun l => ?_⟩,
      fun none => ?_⟩
    · rw [probe, probesRetold_ptm, PerProbe.get_mapI]
      by_cases e : old.probe.get p = new.probe.get p
      · rw [if_pos e, if_neg fun x => (probeItemsChanged_iff old new p).mp x e]
      · rw [if_neg e, if_pos ((probeItemsChanged_iff old new p).mpr e)]; rfl
    · rw [State.sitePort, port]; exact latchDetail_latched .probeState _ q
    · exact reevaluatedTemp_spec (s := probesRetold old new s) inUse probe l
        (by rw [reevaluateWhere_lane]; rfl)
    · obtain ⟨p, -, changed⟩ := List.any_eq_true.mp h
      exact absurd ((probeItemsChanged_iff old new p).mp changed) (none p)
  · have unchanged (p : Probe) : old.probe.get p = new.probe.get p := by
      by_contra e
      exact h (List.any_eq_true.mpr ⟨p, by cases p <;> decide, (probeItemsChanged_iff old new p).mpr e⟩)
    rw [monitorCommit_maps h]
    generalize hP : (fun l => !decide ((old.lane.get l).probeMap = (new.lane.get l).probeMap)) = P
    have ptm := reevaluateWhere_probe P s
    have probe := congrArg TempMonitor.probe ptm
    refine ⟨(congrArg TempMonitor.slotRef ptm :), (congrArg TempMonitor.discards ptm :), fun p => ?_,
      fun ⟨p, changed⟩ => absurd (unchanged p) changed, fun _ l => ⟨fun changed => ?_, fun same => ?_⟩⟩
    · rw [if_pos (unchanged p), probe]
    · refine reevaluatedTemp_spec inUse probe l ?_
      rw [reevaluateWhere_lane, if_pos]
      rw [← hP]; simpa using changed
    · rw [reevaluateWhere_lane, if_neg]
      rw [← hP]; simpa using same

end Sys2Proof.Machine
end

section
/-! A COMMIT applied, stage by stage (R180), and its grant. -/

namespace Sys2Proof.Machine

/-! ### The stages -/

/-- The committed image in use (log 16: before any block is told). -/
def imageInUse (new : Settings) (s : State) : State := s.withSst { s.sst with active := s.sst.active.committed new }

/-- The builders, trackers and run told. -/
def riseTold (new : Settings) (s : State) : State := riseCommit s.settings new (imageInUse new s)

/-- Every block told but the receiver. -/
def blocksTold (new : Settings) (s : State) : State :=
  portsCommit new (monitorCommit s.settings new (formersCommit s.settings new (conditionersCommit s.settings new (riseTold new s))))

theorem applyCommit_eq (new : Settings) (s : State) :
    applyCommit new s = startProgramming (linkCommit s.settings new (blocksTold new s)) := rfl

theorem affectedLanes_get (old new : Settings) (l : Lane) : (affectedLanes old new).get l = laneAffected old new l := by
  cases l <;> rfl

/-- No lane is affected where no protected item differs. -/
theorem not_affected {old new : Settings} (h : protectedDiffers old new = false) (l : Lane) : laneAffected old new l = false := by
  simp only [protectedDiffers, Bool.or_eq_false_iff] at h
  obtain ⟨⟨⟨lanes, -⟩, -⟩, -⟩ := h
  simpa using List.any_eq_false.mp lanes l (by cases l <;> decide)

/-! ### The rise -/

section rise
variable (new : Settings) (s : State)

/-- The state in which the builders are told: the committed image in use, and the lanes of the rise known. -/
def riseKnown : State := (imageInUse new s).withSst { (imageInUse new s).sst with riseLanes := affectedLanes s.settings new }

/-- The builders told. -/
def buildersTold : State := riseNotices (affectedLanes s.settings new) (riseKnown new s)

theorem riseTold_differs (h : protectedDiffers s.settings new = true) : riseTold new s =
    runCommit (affectedLanes s.settings new) (trackersCommit (affectedLanes s.settings new) (buildersTold new s)) := by
  rw [riseTold, riseCommit]; exact if_pos h

theorem riseTold_same (h : protectedDiffers s.settings new = false) : riseTold new s = imageInUse new s := by
  rw [riseTold, riseCommit]; exact if_neg (by rw [h]; decide)

theorem runAndTrackers_frame (lanes : PerLane Bool) (t : State) :
    AgreeOutside [.dtk, .rru] t (runCommit lanes (trackersCommit lanes t)) :=
  ((trackersCommit_frame lanes t).mono (by decide)).trans ((runCommit_frame lanes _).mono (by decide))

theorem riseTold_frame : AgreeOutside (.sst :: sealingChanges) s (riseTold new s) :=
  ((withSst_frame _ s).mono (by decide)).trans (riseCommit_frame _ _ _)

theorem riseTold_active : (riseTold new s).sst.active = s.sst.active.committed new := by
  cases h : protectedDiffers s.settings new with
  | true =>
    have told : (buildersTold new s).sst = (riseKnown new s).sst := riseNotices_frame _ _ .sst (by decide)
    rw [riseTold_differs new s h, runAndTrackers_frame _ _ .sst (by decide), told]; rfl
  | false => rw [riseTold_same new s h]; rfl

/-- All of the settings store but the image and the lanes of the rise stands. -/
theorem riseTold_sst : ∃ lanes, (riseTold new s).sst = { s.sst with active := s.sst.active.committed new, riseLanes := lanes } := by
  cases h : protectedDiffers s.settings new with
  | true =>
    have told : (buildersTold new s).sst = (riseKnown new s).sst := riseNotices_frame _ _ .sst (by decide)
    refine ⟨affectedLanes s.settings new, ?_⟩
    rw [riseTold_differs new s h, runAndTrackers_frame _ _ .sst (by decide), told]; rfl
  | false => exact ⟨s.sst.riseLanes, by rw [riseTold_same new s h]; rfl⟩

theorem riseTold_latches : OnlyLatched s (riseTold new s) := by
  cases h : protectedDiffers s.settings new with
  | true =>
    rw [riseTold_differs new s h]
    have start : OnlyLatched s (riseKnown new s) := onlyLatched_of_port rfl
    exact (start.trans (riseNotices_latches _ _)).trans (onlyLatched_of_frame (runAndTrackers_frame _ _) (by decide))
  | false => rw [riseTold_same new s h]; exact onlyLatched_of_port rfl

theorem riseTold_counts : s.rst.queue <+: (riseTold new s).rst.queue ∧
    (riseTold new s).rst.queue.length ≤ s.rst.queue.length + 3 ∧ (riseTold new s).vehicleNumber ≤ s.vehicleNumber + 3 := by
  cases h : protectedDiffers s.settings new with
  | true =>
    have frame := runAndTrackers_frame (affectedLanes s.settings new) (buildersTold new s)
    rw [riseTold_differs new s h, frame .rst (by decide), frame .vehicleNumber (by decide)]
    exact riseNotices_counts _ (riseKnown new s)
  | false => rw [riseTold_same new s h]; exact ⟨List.prefix_refl _, Nat.le_add_right _ _, Nat.le_add_right _ _⟩

theorem RiseTaken.later {affected : Prop} {s t u : State} {l : Lane} (h : RiseTaken affected s t l) (vb : u.vb = t.vb) (rst : u.rst = t.rst)
    (active : u.sst.active = t.sst.active) : RiseTaken affected s u l := by
  simp only [RiseTaken, Disturbed, State.builder, State.ctx, State.laneSet, State.settings, State.generation, vb, rst, active] at h ⊢
  exact h

theorem riseTold_builders {m : State} (vb : m.vb = (riseTold new s).vb) (rst : m.rst = (riseTold new s).rst)
    (active : m.sst.active = (riseTold new s).sst.active) (l : Lane) :
    (protectedDiffers s.settings new = true → RiseTaken (laneAffected s.settings new l = true) s m l) ∧
    (protectedDiffers s.settings new = false → m.builder l = s.builder l) := by
  refine ⟨fun h => ?_, fun h => ?_⟩
  · have frame := runAndTrackers_frame (affectedLanes s.settings new) (buildersTold new s)
    rw [riseTold_differs new s h] at vb rst active
    have told := riseNotices_taken (affectedLanes s.settings new) (riseKnown new s) l
    rw [affectedLanes_get] at told
    exact RiseTaken.later told (vb.trans (frame .vb (by decide))) (rst.trans (frame .rst (by decide)))
      (active.trans (congrArg SettingsStore.active (frame .sst (by decide))))
  · rw [State.builder, vb, riseTold_same new s h]; rfl

theorem riseTold_tracker (l : Lane) : (riseTold new s).tracker l =
    if laneAffected s.settings new l then (s.tracker l).calibrationChanged else s.tracker l := by
  cases h : protectedDiffers s.settings new with
  | true =>
    have run : (riseTold new s).dtk = (trackersCommit (affectedLanes s.settings new) (buildersTold new s)).dtk := by
      rw [riseTold_differs new s h]; exact runCommit_frame _ _ .dtk (by decide)
    have told : (buildersTold new s).tracker l = s.tracker l :=
      congrArg (fun d => PerLane.get d l) (riseNotices_takers (affectedLanes s.settings new) (riseKnown new s)).1
    have trackers := trackersCommit_tracker (affectedLanes s.settings new) (buildersTold new s) l
    rw [told, affectedLanes_get] at trackers
    rw [State.tracker, run]; exact trackers
  | false => rw [riseTold_same new s h, not_affected h]; rfl

theorem riseTold_rru :
    ((∃ l, laneAffected s.settings new l = true ∧ s.runActive l = true) → (riseTold new s).rru = s.rru.finish .aborted) ∧
    ((∀ l, laneAffected s.settings new l = true → s.runActive l = false) → (riseTold new s).rru = s.rru) := by
  cases h : protectedDiffers s.settings new with
  | true =>
    have told : (trackersCommit (affectedLanes s.settings new) (buildersTold new s)).rru = s.rru :=
      (trackersCommit_frame _ _ .rru (by decide)).trans (riseNotices_takers (affectedLanes s.settings new) (riseKnown new s)).2
    obtain ⟨ends, stays⟩ := runCommit_rru (affectedLanes s.settings new)
      (trackersCommit (affectedLanes s.settings new) (buildersTold new s))
    simp only [State.runActive, told, affectedLanes_get] at ends stays
    rw [riseTold_differs new s h]
    exact ⟨ends, stays⟩
  | false =>
    rw [riseTold_same new s h]
    exact ⟨fun ⟨l, affected, _⟩ => absurd affected (by rw [not_affected h]; decide), fun _ => rfl⟩

end rise

/-! ### Every block told but the receiver -/

theorem portsCommit_port (new : Settings) (s : State) (p : Port) :
    (portsCommit new s).sitePort p = (s.sitePort p).rateCommit (new.port.get p).rate := by simp [portsCommit]

/-- A port's line as a change of its rate sees it. -/
def SameLine (a b : SitePort) : Prop :=
  b.rate = a.rate ∧ b.state = a.state ∧ b.rx = a.rx ∧ b.idle = a.idle ∧ b.bitPhase = a.bitPhase

theorem OnlyLatched.line {s t : State} (h : OnlyLatched s t) (p : Port) : SameLine (s.sitePort p) (t.sitePort p) := by
  rw [h.2 p]; exact ⟨rfl, rfl, rfl, rfl, rfl⟩

theorem rateCommit_retold {rate : LineRate} {a b c : SitePort} (before : SameLine a b) (after : SameLine (b.rateCommit rate) c) :
    RateRetold rate a c := by
  obtain ⟨rate1, state1, rx1, idle1, phase1⟩ := before
  obtain ⟨rate2, state2, rx2, idle2, phase2⟩ := after
  rw [RateRetold, rate2, state2, rx2, idle2, phase2, ← rate1, ← state1, ← rx1, ← idle1, ← phase1]
  by_cases h : b.state = .listen ∧ b.rate ≠ rate
  · rw [SitePort.rateCommit, if_pos h]
    exact ⟨by rw [if_pos h.1], rfl, rfl, fun _ _ => ⟨rfl, rfl⟩, fun no => (no.elim (absurd h.1) fun e => absurd e h.2)⟩
  · rw [SitePort.rateCommit, if_neg h]
    refine ⟨?_, rfl, rfl, fun listen changed => absurd ⟨listen, changed⟩ h, fun _ => ⟨rfl, rfl⟩⟩
    by_cases listen : b.state = .listen
    · rw [if_pos listen]; by_contra changed; exact h ⟨listen, changed⟩
    · rw [if_neg listen]

theorem rateCommit_busy {rate : LineRate} {a : SitePort} (h : a.state ≠ .listen) : a.rateCommit rate = a := by
  rw [SitePort.rateCommit, if_neg fun x => h x.1]

theorem portsCommit_latches (new : Settings) (s : State) : LatchesKept s (portsCommit new s) := by
  intro p
  rw [portsCommit_port, SitePort.rateCommit]
  split <;> exact ⟨fun _ h => h, fun _ h => h⟩

theorem monitorCommit_latches (old new : Settings) (s : State) : OnlyLatched s (monitorCommit old new s) := by
  have lanes (P : Lane → Bool) (t : State) : OnlyLatched t (reevaluateWhere P t) :=
    onlyLatched_foldl _ (fun s l => onlyLatched_ite (onlyLatched_of_frame (reevaluateLane_frame l s) (by decide)) (.refl s)) _ _
  by_cases h : Probe.all.any (probeItemsChanged old new) = true
  · rw [monitorCommit_probes h]
    have probes : OnlyLatched s (probesRetold old new s) :=
      (onlyLatched_of_frame (withPtm_frame _ s) (by decide)).trans (latchDetail_latches _ _)
    exact probes.trans (lanes _ _)
  · rw [monitorCommit_maps h]; exact lanes _ _

section told
variable (new : Settings) (s : State)

/-- The conditioners and formers told. -/
def channelsTold : State := formersCommit s.settings new (conditionersCommit s.settings new (riseTold new s))

/-- The monitor told, and so every block but the ports and the receiver. -/
def monitorTold : State := monitorCommit s.settings new (channelsTold new s)

theorem blocksTold_eq : blocksTold new s = portsCommit new (monitorTold new s) := rfl

theorem channelsTold_frame : AgreeOutside [.cc, .axf] (riseTold new s) (channelsTold new s) :=
  ((conditionersCommit_frame _ _ _).mono (by decide)).trans ((formersCommit_frame _ _ _).mono (by decide))

theorem blocksTold_frame : AgreeOutside [.cc, .axf, .ptm, .port] (riseTold new s) (blocksTold new s) :=
  (((channelsTold_frame new s).mono (by decide)).trans ((monitorCommit_frame _ _ _).mono (by decide))).trans
    ((portsCommit_frame _ _).mono (by decide))

theorem monitorTold_latches : OnlyLatched s (monitorTold new s) :=
  ((riseTold_latches new s).trans (onlyLatched_of_frame (channelsTold_frame new s) (by decide))).trans (monitorCommit_latches _ _ _)

theorem channelsTold_inUse : (channelsTold new s).settings = new := by
  have sst : (channelsTold new s).sst = (riseTold new s).sst := channelsTold_frame new s .sst (by decide)
  rw [State.settings, sst, riseTold_active]; rfl

theorem blocksTold_monitor : MonitorRetold s.settings new s (blocksTold new s) := by
  have retold := monitorCommit_retold (old := s.settings) (channelsTold_inUse new s)
  have ptm : (channelsTold new s).ptm = s.ptm :=
    (channelsTold_frame new s .ptm (by decide)).trans (riseTold_frame new s .ptm (by decide))
  have told : (blocksTold new s).ptm = (monitorTold new s).ptm := portsCommit_frame new _ .ptm (by decide)
  obtain ⟨slot, discards, probes, changed, unchanged⟩ := retold
  simp only [State.laneTemp, ptm] at slot discards probes changed unchanged
  simp only [MonitorRetold, State.laneTemp, told]
  refine ⟨slot, discards, probes, fun some => ⟨fun q => ?_, (changed some).2⟩, unchanged⟩
  exact (portsCommit_latches new (monitorTold new s) q).1 _ ((changed some).1 q)

/-- Every block but the receiver, told of a commit (R180). -/
theorem blocksTold_retold : BlocksRetold s.settings new s (blocksTold new s) := by
  have frame := blocksTold_frame new s
  have cc : (riseTold new s).cc = s.cc := riseTold_frame new s .cc (by decide)
  have axf : (riseTold new s).axf = s.axf := riseTold_frame new s .axf (by decide)
  have afterFormers : AgreeOutside [.ptm, .port] (channelsTold new s) (blocksTold new s) :=
    (monitorCommit_frame _ _ _).trans ((portsCommit_frame _ _).mono (by decide))
  have former (l : Lane) : (blocksTold new s).former l = (channelsTold new s).former l :=
    congrArg (fun f => PerLane.get f l) (afterFormers .axf (by decide))
  have before (l : Lane) : (conditionersCommit s.settings new (riseTold new s)).former l = s.former l := by
    have same : (conditionersCommit s.settings new (riseTold new s)).axf = s.axf :=
      (conditionersCommit_frame _ _ _ .axf (by decide)).trans axf
    rw [State.former, same]; rfl
  have formers (l : Lane) := formersCommit_former s.settings new (conditionersCommit s.settings new (riseTold new s)) l
  have misses (c : Channel) := formersCommit_miss s.settings new (conditionersCommit s.settings new (riseTold new s)) c
  refine ⟨riseTold_builders new s (frame .vb (by decide)) (frame .rst (by decide)) (congrArg _ (frame .sst (by decide))), fun c => ?_,
    fun l => ?_, fun c => ?_, blocksTold_monitor new s, fun l => ?_, fun some => ?_, fun none => ?_⟩
  · have told := conditionersCommit_retold s.settings new (riseTold new s) c
    have after : (blocksTold new s).cc = (conditionersCommit s.settings new (riseTold new s)).cc :=
      (afterFormers .cc (by decide)).trans (formersCommit_frame _ _ _ .cc (by decide))
    rw [State.conditioner, cc] at told
    rw [State.conditioner, State.conditioner, after]; exact told
  · rw [former, channelsTold, formers, before]
  · rw [former, channelsTold, misses, before]
  · have dtk : (blocksTold new s).dtk = (riseTold new s).dtk := frame .dtk (by decide)
    have told := riseTold_tracker new s l
    rw [State.tracker, dtk]
    refine ⟨fun affected => ?_, fun unaffected => ?_⟩
    · rw [if_pos affected] at told; exact told
    · rw [if_neg unaffected] at told; exact told
  · rw [show (blocksTold new s).rru = (riseTold new s).rru from frame .rru (by decide)]
    exact (riseTold_rru new s).1 some
  · rw [show (blocksTold new s).rru = (riseTold new s).rru from frame .rru (by decide)]
    exact (riseTold_rru new s).2 none

end told

/-- The blocks seen from an earlier state that has what they had. -/
theorem BlocksRetold.earlier {old new : Settings} {g s t : State} (h : BlocksRetold old new g t)
    (frame : AgreeOutside [.lines, .sea, .port, .sst] s g) : BlocksRetold old new s t := by
  have cc : g.cc = s.cc := frame .cc (by decide)
  have axf : g.axf = s.axf := frame .axf (by decide)
  have vb : g.vb = s.vb := frame .vb (by decide)
  have number : g.vehicleNumber = s.vehicleNumber := frame .vehicleNumber (by decide)
  have ptm : g.ptm = s.ptm := frame .ptm (by decide)
  have dtk : g.dtk = s.dtk := frame .dtk (by decide)
  have rru : g.rru = s.rru := frame .rru (by decide)
  have rst : g.rst = s.rst := frame .rst (by decide)
  simp only [BlocksRetold, RiseTaken, Disturbed, MonitorRetold, State.builder, State.ctx, State.conditioner, State.former, State.tracker,
    State.laneTemp, State.runActive, cc, axf, vb, number, ptm, dtk, rru, rst] at h ⊢
  exact h

/-- What comes after the blocks were told and leaves them alone. -/
theorem BlocksRetold.later {old new : Settings} {s t u : State} (h : BlocksRetold old new s t)
    (frame : ∀ x ∈ [Part.cc, .axf, .vb, .ptm, .dtk, .rru, .rst], Agree t u x) (active : u.sst.active = t.sst.active)
    (kept : LatchesKept t u) : BlocksRetold old new s u := by
  have cc : u.cc = t.cc := frame .cc (by decide)
  have axf : u.axf = t.axf := frame .axf (by decide)
  have vb : u.vb = t.vb := frame .vb (by decide)
  have ptm : u.ptm = t.ptm := frame .ptm (by decide)
  have dtk : u.dtk = t.dtk := frame .dtk (by decide)
  have rru : u.rru = t.rru := frame .rru (by decide)
  have rst : u.rst = t.rst := frame .rst (by decide)
  have conditioner (c : Channel) : u.conditioner c = t.conditioner c := by rw [State.conditioner, cc]; rfl
  have former (l : Lane) : u.former l = t.former l := by rw [State.former, axf]; rfl
  have tracker (l : Lane) : u.tracker l = t.tracker l := by rw [State.tracker, dtk]; rfl
  obtain ⟨builders, conditioners, formers, misses, monitor, trackers, ended, stays⟩ := h
  refine ⟨fun l => ⟨fun d => ((builders l).1 d).later vb rst active, fun d => ?_⟩, fun c => ?_, fun l => ?_, fun c => ?_, ?_, fun l => ?_,
    fun some => ?_, fun none => ?_⟩
  · rw [State.builder, vb]; exact (builders l).2 d
  · rw [conditioner]; exact conditioners c
  · rw [former]; exact formers l
  · rw [former]; exact misses c
  · obtain ⟨slot, discards, probes, changed, unchanged⟩ := monitor
    simp only [MonitorRetold, State.laneTemp, ptm]
    exact ⟨slot, discards, probes, fun some => ⟨fun q => (kept q).1 _ ((changed some).1 q), (changed some).2⟩, unchanged⟩
  · rw [tracker]; exact trackers l
  · rw [rru]; exact ended some
  · rw [rru]; exact stays none

/-! ### The receiver (R20) -/

section link
variable {old new : Settings} {s : State}

theorem linkCommit_stays (h : new.site.linkMode = old.site.linkMode ∨ s.slr.state = .down) : linkCommit old new s = s := by
  rw [linkCommit]
  by_cases same : old.site.linkMode = new.site.linkMode
  · exact if_pos same
  · rw [if_neg same, h.resolve_left (Ne.symm same)]

theorem linkCommit_searches (h : new.site.linkMode ≠ old.site.linkMode) (aligning : s.slr.state = .aligning) :
    linkCommit old new s = s.withSlr { s.slr with halfMarker := false } := by
  rw [linkCommit, if_neg (Ne.symm h), aligning]

theorem linkCommit_leaves (h : new.site.linkMode ≠ old.site.linkMode) (running : s.slr.state = .running) :
    linkCommit old new s = leaveRunning .aligning s := by
  rw [linkCommit, if_neg (Ne.symm h), running]

/-- Away from RUNNING a commit changes at most the link. -/
theorem linkCommit_quiet (h : new.site.linkMode = old.site.linkMode ∨ s.slr.state ≠ .running) :
    AgreeOutside [.slr] s (linkCommit old new s) := by
  by_cases stays : new.site.linkMode = old.site.linkMode ∨ s.slr.state = .down
  · rw [linkCommit_stays stays]; exact .refl _ _
  · obtain ⟨mode, down⟩ := not_or.mp stays
    have aligning : s.slr.state = .aligning := by
      have running := h.resolve_left mode
      cases hs : s.slr.state <;> simp_all
    rw [linkCommit_searches mode aligning]; exact withSlr_frame _ s

theorem linkCommit_latches : OnlyLatched s (linkCommit old new s) := by
  by_cases quiet : new.site.linkMode = old.site.linkMode ∨ s.slr.state ≠ .running
  · exact onlyLatched_of_frame (linkCommit_quiet quiet) (by decide)
  · obtain ⟨mode, running⟩ := not_or.mp quiet
    rw [linkCommit_leaves mode (not_not.mp running), leaveRunning_eq]
    exact ((onlyLatched_of_frame (withSlr_frame _ s) (by decide)).trans (latchDetail_latches .scanLink _)).trans (noticePath_latches _)

end link

/-! ### The grant of a commit -/

/-- A commit applied in its grant and answered. -/
def commitGranted (p : Port) (dest : Byte) (st : Status) (new : Settings) (g : State) : State :=
  endGrant (settleAction p dest (commitAnswer st (applyCommit new g)))

section granted
variable {p : Port} {dest : Byte} {st : Status} {new : Settings} {g : State}

/-- The receiver told, after every other block. -/
def linkTold (new : Settings) (g : State) : State := linkCommit g.settings new (blocksTold new g)

theorem commitGranted_frame : AgreeOutside [.sst, .port, .sea] (linkTold new g) (commitGranted p dest st new g) :=
  (((startProgramming_frame _).mono (by decide)).trans ((settle_frame p dest _ st _).mono (by decide))).trans
    ((endGrant_frame _).mono (by decide))

theorem commitGranted_port (q : Port) : (commitGranted p dest st new g).sitePort q = if q = p then { (linkTold new g).sitePort p with
    state := .reply, reply := replyFrame dest st (natBytes 4 (linkTold new g).generation.toNat), driving := false, sentBits := 0 }
    else (linkTold new g).sitePort q := by
  by_cases h : q = p
  · subst h; simp [commitGranted, commitAnswer, settleAction, enterReply, endGrant, startProgramming, applyCommit_eq, linkTold, bitBytes]
  · simp [commitGranted, commitAnswer, settleAction, enterReply, endGrant, startProgramming, applyCommit_eq, linkTold, h]

theorem commitGranted_latches : LatchesKept (linkTold new g) (commitGranted p dest st new g) := by
  intro q
  rw [commitGranted_port]
  split
  next h => subst h; exact ⟨fun _ h => h, fun _ h => h⟩
  next => exact ⟨fun _ h => h, fun _ h => h⟩

theorem commitGranted_sst : (commitGranted p dest st new g).sst =
    { (linkTold new g).sst with prog := .ready 1 (linkTold new g).sst.active, nvGood := false } := rfl

theorem commitGranted_generation : (commitGranted p dest st new g).generation = (linkTold new g).generation := by
  rw [State.generation, commitGranted_sst]; rfl

theorem linkTold_sst : (linkTold new g).sst = (riseTold new g).sst :=
  (linkCommit_frame _ _ _ .sst (by decide)).trans (blocksTold_frame new g .sst (by decide))

theorem blocksTold_slr : (blocksTold new g).slr = g.slr :=
  (blocksTold_frame new g .slr (by decide)).trans (riseTold_frame new g .slr (by decide))

end granted

section commit
variable {s : State} {p : Port} {dest : Byte} {key : Bool} {e : EditSession}

/-- COMMIT from the holder waits for its grant. -/
theorem commit_waits (taken : TakenDirect s p dest []) (edit : s.sst.edit = some e) (holder : e.holder = p) :
    exec (.commit p dest []) s = .next (settleAction p dest (.wait (inHand p dest 17 [] s))) := by
  have holds : (inHand p dest 17 [] s).holdsToken p = true := by rw [inHand_holds, State.holdsToken, edit]; simpa using holder
  have act : holderOnly p .wait (inHand p dest 17 [] s) = .wait (inHand p dest 17 [] s) := by rw [holderOnly, if_pos holds]
  rw [← act]
  exact congrArg Host.Outcome.next (takeRequest_passes taken (len := true) (needs := needsNone) rfl rfl _ _ _)

/-- A commit that passes every check is applied (R179, R180). -/
theorem commit_passes (only : OnlyWaiter s p) (edit : s.sst.edit = some e) (holder : e.holder = p)
    (idle : s.sst.prog = .idle) (checks : firstFailure (crossChecks e.working) = none)
    (allowed : protectedDiffers s.settings e.working = true → key = true) (differs : e.working ≠ s.settings) :
    exec (.portGrantExecute key) (settleAction p dest (.wait (inHand p dest 17 [] s))) =
      .next (commitGranted p dest (if s.sst.storeFault then .storeFault else .ok) e.working (granted p dest 17 [] key s)) := by
  generalize hg : granted p dest 17 [] key s = g
  have sst : g.sst = LeaseRestarted p s.sst := by rw [← hg]; exact granted_sst p dest 17 [] key s
  have editing : g.sst.edit = some { e with lease := 0 } := by rw [sst, LeaseRestarted, edit]; simp [holder]
  have quiet : g.programming = false := by rw [State.programming, sst, LeaseRestarted, idle]; rfl
  have inUse : g.settings = s.settings := by rw [State.settings, sst]; rfl
  have level : g.lines.key = key := by rw [← hg, granted_lines]
  have permitted : (protectedDiffers s.settings e.working && !g.lines.key) = false := by
    rw [level]
    cases d : protectedDiffers s.settings e.working with
    | true => rw [allowed d]; rfl
    | false => rfl
  have commits : grantCommit p g = commitAnswer (if s.sst.storeFault then .storeFault else .ok) (applyCommit e.working g) := by
    rw [grantCommit, editing]
    simp only [holder, ne_eq, not_true_eq_false, if_false, quiet, Bool.false_eq_true, checks, inUse, permitted, differs, sst]
    rfl
  have grants := portGrant_onlyWaiter only dest 17 [] key (by decide) rfl
  rw [hg] at grants
  exact congrArg Host.Outcome.next (grants.trans (congrArg (fun a => endGrant (settleAction p dest a)) commits))

end commit

/-- Settles O43, stage by stage: the blocks in the order of R180, and the receiver last. -/
theorem commitApplies : Obligations.CommitApplies := by
  intro s p dest key e taken only edit holder idle checks allowed differs
  refine ⟨_, _, ⟨commit_waits taken edit holder, commit_passes only edit holder idle checks allowed differs⟩, waits, ?_⟩
  generalize hst : (if s.sst.storeFault = true then Status.storeFault else Status.ok) = st
  have frame : AgreeOutside [.lines, .sea, .port, .sst] s (granted p dest 17 [] key s) := granted_frame p dest 17 [] key s
  have sst : (granted p dest 17 [] key s).sst = LeaseRestarted p s.sst := granted_sst p dest 17 [] key s
  have ports : (granted p dest 17 [] key s).port = s.port.set p (WaitingPort (s.sitePort p) dest 17 []) := granted_port p dest 17 [] key s
  generalize granted p dest 17 [] key s = g at frame sst ports ⊢
  have inUse : g.settings = s.settings := by rw [State.settings, sst]; rfl
  have slr : g.slr = s.slr := frame .slr (by decide)
  have told : (blocksTold e.working g).slr = s.slr := blocksTold_slr.trans slr
  have linkSlr : (commitGranted p dest st e.working g).slr = (linkTold e.working g).slr := commitGranted_frame .slr (by decide)
  have active : (linkTold e.working g).sst.active = s.sst.active.committed e.working := by
    rw [linkTold_sst, riseTold_active, sst]; rfl
  have blocks : BlocksRetold s.settings e.working s (blocksTold e.working g) := by
    have retold := blocksTold_retold e.working g
    rw [inUse] at retold
    exact retold.earlier frame
  have activeBefore : (blocksTold e.working g).sst.active = (linkTold e.working g).sst.active := by
    rw [linkTold_sst]; exact congrArg SettingsStore.active (blocksTold_frame e.working g .sst (by decide))
  have activeAfter : (commitGranted p dest st e.working g).sst.active = (blocksTold e.working g).sst.active := by
    rw [commitGranted_sst]; exact activeBefore.symm
  have path : AgreeOutside (.lines :: .sea :: .sst :: trafficChanges) s (commitGranted p dest st e.working g) :=
    ((((frame.mono (by decide)).trans ((riseTold_frame e.working g).mono (by decide))).trans
      ((blocksTold_frame e.working g).mono (by decide))).trans ((linkCommit_frame _ _ _).mono (by decide))).trans
      (commitGranted_frame.mono (by decide))
  obtain ⟨lanes, store⟩ := riseTold_sst e.working g
  have granted : (commitGranted p dest st e.working g).sst = { LeaseRestarted p s.sst with
      active := s.sst.active.committed e.working, riseLanes := lanes, prog := .ready 1 (s.sst.active.committed e.working)
      nvGood := false } := by
    rw [commitGranted_sst, active, linkTold_sst, store, sst]; rfl
  have ownPort : g.sitePort p = WaitingPort (s.sitePort p) dest 17 [] := by rw [State.sitePort, ports]; simp
  have otherPort (q : Port) (h : q ≠ p) : g.sitePort q = s.sitePort q := by rw [State.sitePort, ports]; simp [h]
  have before : OnlyLatched g (monitorTold e.working g) := monitorTold_latches e.working g
  have after : OnlyLatched (blocksTold e.working g) (linkTold e.working g) := linkCommit_latches
  refine ⟨?_, ?_, ?_, ?_, ?_, ?_, ?_, ?_, fun q h => ?_, ?_,
    ⟨fun h => ?_, fun mode aligning => ?_, fun h => ?_, fun mode running => ?_⟩, ?_, ?_⟩
  · rw [granted]; rfl
  · rw [granted, LeaseRestarted, edit]; simp [holder]
  · rw [granted]
  · rw [granted]
  · rw [granted]; rfl
  · rw [granted]; rfl
  · rw [commitGranted_port, if_pos rfl]
  · rw [commitGranted_generation, commitGranted_port, if_pos rfl]
  · have line := before.line q
    rw [otherPort q h] at line
    refine rateCommit_retold line ?_
    rw [commitGranted_port, if_neg h, ← portsCommit_port]
    exact after.line q
  · have line := before.line p
    have busy : ((monitorTold e.working g).sitePort p).state ≠ .listen := by
      rw [line.2.1, ownPort]; exact fun x => PortState.noConfusion x
    have told : (blocksTold e.working g).sitePort p = (monitorTold e.working g).sitePort p := by
      rw [blocksTold_eq, portsCommit_port, rateCommit_busy busy]
    rw [commitGranted_port, if_pos rfl]
    exact (after.line p).1.trans ((congrArg SitePort.rate told).trans (line.1.trans (by rw [ownPort]; rfl)))
  · rw [linkSlr, linkTold, inUse, linkCommit_stays (by rwa [told]), told]
  · rw [linkSlr, linkTold, inUse, linkCommit_searches mode (by rwa [told]), State.withSlr_slr, told]
  · have quiet : AgreeOutside [.slr] (blocksTold e.working g) (linkTold e.working g) := by
      rw [linkTold, inUse]; exact linkCommit_quiet (by rwa [told])
    exact blocks.later (fun x hx => ((quiet.mono (by decide)).trans (commitGranted_frame.mono (by decide)) : AgreeOutside
      [.slr, .sst, .port, .sea] _ _) x (by revert x; decide)) activeAfter (after.kept.trans commitGranted_latches)
  · have leaves : linkTold e.working g = leaveRunning .aligning (blocksTold e.working g) := by
      rw [linkTold, inUse, linkCommit_leaves mode (by rwa [told])]
    obtain ⟨queue, three, number⟩ := riseTold_counts e.working g
    have rst : (blocksTold e.working g).rst = (riseTold e.working g).rst := blocksTold_frame e.working g .rst (by decide)
    have numbers : (blocksTold e.working g).vehicleNumber = (riseTold e.working g).vehicleNumber :=
      blocksTold_frame e.working g .vehicleNumber (by decide)
    have start : g.rst = s.rst := frame .rst (by decide)
    have startNumber : g.vehicleNumber = s.vehicleNumber := frame .vehicleNumber (by decide)
    refine ⟨by rw [linkSlr, leaves, leaveRunning_slr, told]; rfl, blocksTold e.working g, blocks, activeAfter.symm,
      by rw [rst, ← start]; exact queue, by rw [rst, ← start]; exact three, by rw [numbers, ← startNumber]; exact number, ?_⟩
    have emptied : DataPathEmptied (blocksTold e.working g) (linkTold e.working g) := by
      rw [leaves]; exact leaveRunning_empties (.refl _ _) .aligning
    exact emptied.later (fun x hx => commitGranted_frame x (by revert x; decide)) rfl commitGranted_latches
  · exact path .sck (by decide)
  · exact path .pending (by decide)

end Sys2Proof.Machine
end

section
/-! The temperature monitor's completed readings and its timers (R75, R77 to R84). -/

namespace Sys2Proof.Machine

/-! ### A probe's record replaced (R81) -/

section moved
variable (p : Probe) (changed : Bool) (q : ProbeState) (s : State)

/-- The state in which the lanes are re-evaluated after a probe's record was replaced. -/
def probeReplaced : State := latchDetailIf changed .probeState (s.withPtm { s.ptm with probe := s.ptm.probe.set p q })

theorem probeMoved_eq : probeMoved p changed q s = reevaluateWhere (fun _ => true) (probeReplaced p changed q s) := rfl

theorem probeReplaced_ptm : (probeReplaced p changed q s).ptm = { s.ptm with probe := s.ptm.probe.set p q } := by simp [probeReplaced]

theorem probeMoved_ptm : (probeMoved p changed q s).ptm =
    { s.ptm with probe := s.ptm.probe.set p q, lane := (probeMoved p changed q s).ptm.lane } := by
  rw [probeMoved_eq, reevaluateWhere_probe, probeReplaced_ptm]

theorem probeMoved_probe : (probeMoved p changed q s).ptm.probe = s.ptm.probe.set p q := by rw [probeMoved_ptm]

theorem probeMoved_slotRef : (probeMoved p changed q s).ptm.slotRef = s.ptm.slotRef := by rw [probeMoved_ptm]

theorem probeMoved_discards : (probeMoved p changed q s).ptm.discards = s.ptm.discards := by rw [probeMoved_ptm]

theorem probeMoved_sitePort (r : Port) :
    (probeMoved p changed q s).sitePort r = if changed then (s.sitePort r).latchDetail .probeState else s.sitePort r := by
  have port : (probeMoved p changed q s).port = (probeReplaced p changed q s).port := reevaluateLanes_frame _ .port (by decide)
  rw [State.sitePort, port, probeReplaced, latchDetailIf_port]
  cases changed <;> simp

/-- Every lane is re-evaluated from the probes as they stand after the change (R81, R83). -/
theorem probeMoved_lane (l : Lane) : LaneReevaluated (probeMoved p changed q s).ptm (s.laneSet l).probeMap (s.laneTemp l)
    ((probeMoved p changed q s).laneTemp l) := by
  have inUse : (probeReplaced p changed q s).settings = s.settings := by simp [probeReplaced]
  have temp : (probeReplaced p changed q s).laneTemp l = s.laneTemp l := by rw [State.laneTemp, probeReplaced_ptm]; rfl
  rw [← temp, probeMoved_eq]
  exact reevaluatedTemp_spec inUse (by rw [reevaluateWhere_probe]) l (by rw [reevaluateWhere_lane]; rfl)

end moved

/-! ### A probe's record after a completed reading (R77 to R79, R81) -/

section reading
variable (cfg : ProbeSettings) (spikeLimit raw : Nat) (q : ProbeState)

/-- A reading formed: the accumulator cleared, the reading kept, the stale timer restarted (R75, R77, R80). -/
def ProbeState.formed (cls : ReadingClass) (q : ProbeState) : ProbeState :=
  { q with sum := 0, count := 0, last := some ⟨raw, cls⟩, stale := some 0 }

/-- A reading of a class counted and filtered (R78, R79). -/
def ProbeState.counted (cls : ReadingClass) (q : ProbeState) : ProbeState :=
  ((q.formed raw cls).persist cls).filtered cfg spikeLimit raw cls

/-- A probe in the state that a counted reading of a class moves it to (R79, R81). -/
def ProbeState.settled (cls : ReadingClass) (q : ProbeState) : ProbeState :=
  if q.moved cls = q.state then q else q.enter (q.moved cls)

theorem ProbeState.filter_eq (k : Nat) (v : Int) :
    q.filter k v = { q with f := (q.filter k v).f, spikes := (q.filter k v).spikes } := by
  unfold ProbeState.filter; repeat' split
  all_goals rfl

/-- The filter looks at a probe's filtered value and spike count alone (R78). -/
theorem ProbeState.filter_congr {q r : ProbeState} (f : r.f = q.f) (spikes : r.spikes = q.spikes) (k : Nat) (v : Int) :
    (r.filter k v).f = (q.filter k v).f ∧ (r.filter k v).spikes = (q.filter k v).spikes := by
  unfold ProbeState.filter
  rw [f, spikes]
  cases q.f with
  | none => exact ⟨rfl, rfl⟩
  | some x =>
    dsimp only; repeat' split
    all_goals exact ⟨by rfl, by rfl⟩

theorem ProbeState.filter_seeds {q : ProbeState} (h : q.f = none) (k : Nat) (v : Int) :
    (q.filter k v).f = some v ∧ (q.filter k v).spikes = 0 := by
  rw [ProbeState.filter, h]; exact ⟨rfl, rfl⟩

theorem ProbeState.filter_near {q : ProbeState} {f v : Int} {k : Nat} (h : q.f = some f) (near : (v - f).natAbs ≤ k) :
    (q.filter k v).f = some (f + Int.tdiv (v - f) 8) ∧ (q.filter k v).spikes = 0 := by
  simp [ProbeState.filter, h, Nat.not_lt.mpr near]

theorem ProbeState.filter_third {q : ProbeState} {f v : Int} {k : Nat} (h : q.f = some f) (far : k < (v - f).natAbs)
    (third : 2 ≤ q.spikes) : (q.filter k v).f = some v ∧ (q.filter k v).spikes = 0 := by
  simp [ProbeState.filter, h, far, third]

theorem ProbeState.filter_spike {q : ProbeState} {f v : Int} {k : Nat} (h : q.f = some f) (far : k < (v - f).natAbs)
    (early : q.spikes < 2) : (q.filter k v).f = some f ∧ (q.filter k v).spikes = q.spikes + 1 := by
  simp [ProbeState.filter, h, far, Nat.not_le.mpr early]

theorem ProbeState.moved_good : q.moved .good =
    if q.state = .none ∨ q.state = .good ∨ q.good = 5 then .good else q.state := by
  cases h : q.state <;> simp [ProbeState.moved, h]

theorem ProbeState.moved_badOpen : q.moved .badOpen = if q.badOpen = 3 then .open else q.state := by
  cases h : q.state <;> simp [ProbeState.moved, h]

theorem ProbeState.moved_badShort : q.moved .badShort = if q.badShort = 3 then .short else q.state := by
  cases h : q.state <;> simp [ProbeState.moved, h]

theorem ProbeState.settled_good : q.settled .good = { q with state := q.moved .good } := by
  have goal : q.moved .good = .good ∨ q.moved .good = q.state := by rw [ProbeState.moved_good]; split <;> simp
  unfold ProbeState.settled
  by_cases same : q.moved .good = q.state
  · rw [if_pos same, same]
  · rw [if_neg same, goal.resolve_right same, ProbeState.enter]

/-- A bad reading moves a probe to OPEN or SHORT alone, where f is unseeded (R81). -/
theorem ProbeState.settled_bad {cls : ReadingClass} (bad : cls ≠ .good) (spikes : q.spikes = 0) :
    q.settled cls = { q with state := q.moved cls, f := if q.moved cls = q.state then q.f else none } := by
  have goal : (q.moved cls = .open ∨ q.moved cls = .short) ∨ q.moved cls = q.state := by
    cases cls with
    | good => exact absurd rfl bad
    | badOpen => rw [ProbeState.moved_badOpen]; split <;> simp
    | badShort => rw [ProbeState.moved_badShort]; split <;> simp
  unfold ProbeState.settled
  by_cases same : q.moved cls = q.state
  · rw [if_pos same, if_pos same, same]
  · rw [if_neg same, if_neg same]
    rcases goal.resolve_right same with e | e <;> rw [e, ProbeState.enter, spikes]

theorem ProbeState.counted_good : q.counted cfg spikeLimit raw .good = { q.formed raw .good with
    good := min 5 (q.good + 1), badOpen := 0, badShort := 0
    f := (q.filter spikeLimit (linearise cfg raw)).f, spikes := (q.filter spikeLimit (linearise cfg raw)).spikes } := by
  obtain ⟨f, spikes⟩ := ProbeState.filter_congr (q := q) (r := (q.formed raw .good).persist .good) rfl rfl spikeLimit (linearise cfg raw)
  rw [ProbeState.counted, ProbeState.filtered, ProbeState.filter_eq, f, spikes]; rfl

theorem ProbeState.counted_bad {cls : ReadingClass} (bad : cls ≠ .good) :
    q.counted cfg spikeLimit raw cls = { (q.formed raw cls).persist cls with spikes := 0 } := by
  cases cls with
  | good => exact absurd rfl bad
  | badOpen => rfl
  | badShort => rfl

theorem ProbeState.settled_state (cls : ReadingClass) : (q.settled cls).state = q.moved cls := by
  have entered (h : ProbeHealth) : (q.enter h).state = h := by cases h <;> rfl
  unfold ProbeState.settled; split
  · next same => exact same.symm
  · exact entered _

theorem ProbeState.counted_state (cls : ReadingClass) : (q.counted cfg spikeLimit raw cls).state = q.state := by
  cases cls with
  | good => rw [ProbeState.counted_good]; rfl
  | badOpen => rfl
  | badShort => rfl

/-- A probe's record after a reading of a class (R81). -/
def ProbeState.read (cls : ReadingClass) (q : ProbeState) : ProbeState := (q.counted cfg spikeLimit raw cls).settled cls

/-- A probe's record after a good reading: the state is GOOD where it was NONE or GOOD and at the fifth good reading (R78, R79). -/
theorem ProbeState.read_good : q.read cfg spikeLimit raw .good = { q.formed raw .good with
    good := min 5 (q.good + 1), badOpen := 0, badShort := 0
    f := (q.filter spikeLimit (linearise cfg raw)).f, spikes := (q.filter spikeLimit (linearise cfg raw)).spikes
    state := if q.state = .none ∨ q.state = .good ∨ 4 ≤ q.good then .good else q.state } := by
  have fifth : min 5 (q.good + 1) = 5 ↔ 4 ≤ q.good := by omega
  rw [ProbeState.read, ProbeState.settled_good, ProbeState.moved_good, ProbeState.counted_good]
  simp only [ProbeState.formed, fifth]

/-- A probe's record after a bad reading, but for the state it moves to (R78, R79, R81). -/
theorem ProbeState.read_bad {cls : ReadingClass} (bad : cls ≠ .good) :
    q.read cfg spikeLimit raw cls = { (q.formed raw cls).persist cls with
      state := (q.persist cls).moved cls, f := if (q.persist cls).moved cls = q.state then q.f else none, spikes := 0 } := by
  rw [ProbeState.read, ProbeState.counted_bad cfg spikeLimit raw q bad, ProbeState.settled_bad _ bad rfl]
  cases cls with
  | good => exact absurd rfl bad
  | badOpen => rfl
  | badShort => rfl

theorem ProbeState.moved_third_open : (q.persist .badOpen).moved .badOpen = if 2 ≤ q.badOpen then .open else q.state := by
  have third : min 3 (q.badOpen + 1) = 3 ↔ 2 ≤ q.badOpen := by omega
  rw [ProbeState.moved_badOpen]; simp only [ProbeState.persist, bump, third]

theorem ProbeState.moved_third_short : (q.persist .badShort).moved .badShort = if 2 ≤ q.badShort then .short else q.state := by
  have third : min 3 (q.badShort + 1) = 3 ↔ 2 ≤ q.badShort := by omega
  rw [ProbeState.moved_badShort]; simp only [ProbeState.persist, bump, third]

end reading

/-- A change of state is what the monitor latches, whichever state a counted reading moves the probe to (R81). -/
theorem probeMoved_settled (p : Probe) (cls : ReadingClass) {c : ProbeState} {before : ProbeHealth} (held : c.state = before) (s : State) :
    (if c.moved cls = c.state then probeMoved p false c s else probeMoved p true (c.enter (c.moved cls)) s) =
      probeMoved p (decide ((c.settled cls).state ≠ before)) (c.settled cls) s := by
  rw [ProbeState.settled_state, ← held]
  by_cases same : c.moved cls = c.state <;> simp [ProbeState.settled, same]

/-- The 2,000th conversion completes a reading (R75). -/
theorem probeReading_complete {s : State} {p : Probe} {q : ProbeState} (probe : s.ptm.probe.get p = q) (full : q.count = 2000)
    {cfg : ProbeSettings} (items : s.settings.probe.get p = cfg) {raw : Nat} (mean : roundDiv q.sum 2000 = raw) {cls : ReadingClass}
    (ranked : classify cfg raw = cls) : probeReading p s =
      probeMoved p (decide ((q.read cfg s.site.spikeLimit raw cls).state ≠ q.state)) (q.read cfg s.site.spikeLimit raw cls) s := by
  subst probe items mean ranked
  rw [probeReading, if_neg (by rw [full]; decide)]
  exact probeMoved_settled p _ (ProbeState.counted_state _ _ _ _ _) s

/-- Settles O27: the record is read class by class. -/
theorem probeReadingCompletes : Obligations.ProbeReadingCompletes := by
  intro s p full q cfg raw cls v
  have value : linearise cfg raw = v := rfl
  have runs := probeReading_complete (q := q) (cfg := cfg) (raw := raw) (cls := cls) rfl full rfl rfl rfl
  refine ⟨_, congrArg Host.Outcome.next runs, ?_⟩
  clear runs full
  clear_value cls v raw q cfg
  generalize hu : q.read cfg s.site.spikeLimit raw cls = u
  have own : (probeMoved p (decide (u.state ≠ q.state)) u s).ptm.probe.get p = u := by rw [probeMoved_probe, PerProbe.get_set_self]
  have ports (r : Port) : (probeMoved p (decide (u.state ≠ q.state)) u s).sitePort r =
      if u.state = q.state then s.sitePort r else (s.sitePort r).latchDetail .probeState := by
    rw [probeMoved_sitePort]; by_cases same : u.state = q.state <;> simp [same]
  refine ⟨?_, fun r other => ?_, probeMoved_lane _ _ _ _, probeMoved_slotRef _ _ _ _, probeMoved_discards _ _ _ _,
    probeMoved_frame _ _ _ _⟩
  · rw [own]
    cases cls with
    | good =>
      rw [ProbeState.read_good, value] at hu
      subst hu
      exact ⟨rfl, rfl, rfl, rfl, rfl, rfl, rfl, fun _ => rfl, nofun, nofun,
        fun _ => ⟨fun unseeded => ProbeState.filter_seeds unseeded _ v, fun f seeded => ⟨fun near => ProbeState.filter_near seeded near,
          fun far third => ProbeState.filter_third seeded far third, fun far early => ProbeState.filter_spike seeded far early⟩⟩,
        fun bad => absurd rfl bad, ports⟩
    | badOpen =>
      rw [ProbeState.read_bad (cls := .badOpen) cfg _ raw q nofun, ProbeState.moved_third_open] at hu
      subst hu
      exact ⟨rfl, rfl, rfl, rfl, rfl, rfl, rfl, nofun, fun _ => rfl, nofun, nofun, fun _ => ⟨rfl, rfl⟩, ports⟩
    | badShort =>
      rw [ProbeState.read_bad (cls := .badShort) cfg _ raw q nofun, ProbeState.moved_third_short] at hu
      subst hu
      exact ⟨rfl, rfl, rfl, rfl, rfl, rfl, rfl, nofun, nofun, fun _ => rfl, nofun, fun _ => ⟨rfl, rfl⟩, ports⟩
  · rw [probeMoved_probe, PerProbe.get_set_ne _ _ other]

/-! ### The timers of the monitor (R80, R82) -/

theorem ProbeState.staleDue_of {q : ProbeState} (ran : q.stale = some 24000) (live : q.state = .good ∨ q.state = .open ∨ q.state = .short) :
    q.staleDue = true := by
  rcases live with e | e | e <;> simp [ProbeState.staleDue, ran, e, staleStrobes]

theorem probeStale_due {s : State} {p : Probe} (due : (s.ptm.probe.get p).staleDue = true) :
    probeStale p s = probeMoved p true ((s.ptm.probe.get p).enter .stale) s := by
  rw [probeStale, if_pos due]

theorem laneTempLost_due {s : State} {l : Lane} (held : (s.laneTemp l).source = .held) (due : (s.laneTemp l).lostDue = true) :
    laneTempLost l s = s.withPtm { s.ptm with
      lane := s.ptm.lane.set l { s.laneTemp l with held := 7200000, lostDue := false } } := by
  rw [laneTempLost, if_pos (by rw [held, due]; rfl)]; rfl

theorem LaneTemp.reported_lost {k : LaneTemp} (held : k.source = .held) (done : 7200000 ≤ k.held) : k.reported = .lost := by
  simp [LaneTemp.reported, LaneTemp.isLost, held, done]

/-- Settles O28. -/
theorem monitorTimersExpire : Obligations.MonitorTimersExpire := by
  refine ⟨fun s p ran live => ⟨_, congrArg Host.Outcome.next (probeStale_due (ProbeState.staleDue_of ran live)), ?_⟩,
    fun s l held due => ⟨_, congrArg Host.Outcome.next (laneTempLost_due held due), rfl, ?_, withPtm_frame _ _⟩⟩
  · exact ⟨probeMoved_probe _ _ _ _, probeMoved_sitePort _ _ _ _, probeMoved_lane _ _ _ _, probeMoved_slotRef _ _ _ _,
      probeMoved_discards _ _ _ _, probeMoved_frame _ _ _ _⟩
  · rw [State.laneTemp, State.withPtm_ptm, PerLane.get_set_self]
    exact LaneTemp.reported_lost held (Nat.le_refl _)

end Sys2Proof.Machine
end

section
/-! IDENTIFY, READ TEMPERATURES, READ DRIFT and READ RUN: the blocks of their replies laid out once each, each block's own fields inside
it, and the state in which they are worked out (R89, R130, R137, R171). -/

namespace Sys2Proof.Machine

/-! ### IDENTIFY -/

theorem identifyPayload_length (p : Port) (s : State) : (identifyPayload p s).length = 26 := by
  simp [identifyPayload, vendorBytes, partBytes, bitBytes]

theorem identify_strings : vendorBytes ++ partBytes = [76, 111, 117, 115, 116, 114, 97, 110, 69, 108, 119, 111, 120, 32, 65, 87, 51] := rfl

theorem portLetter_bytes (p : Port) : [portLetter p] = natBytes 1 (64 + p.number) := by cases p <;> rfl

theorem identify_fields (p : Port) (s : State) :
    Carries (identifyPayload p s) 0 [76, 111, 117, 115, 116, 114, 97, 110, 69, 108, 119, 111, 120, 32, 65, 87, 51] ∧
    CarriesNat (identifyPayload p s) 17 1 1 ∧ CarriesNat (identifyPayload p s) 18 1 s.site.unitAddress ∧
    CarriesNat (identifyPayload p s) 19 1 (64 + p.number) ∧ CarriesNat (identifyPayload p s) 20 1 s.startCause.code ∧
    CarriesNat (identifyPayload p s) 21 1 s.sst.settingsState.code ∧ CarriesNat (identifyPayload p s) 22 4 s.generation.toNat := by
  have revision : [siliconRevision] = natBytes 1 1 := rfl
  have strings : (vendorBytes ++ partBytes).length = 17 := rfl
  rw [← identify_strings]
  simp only [identifyPayload, portLetter_bytes, revision, CarriesNat, bitBytes]
  generalize vendorBytes ++ partBytes = names at strings ⊢
  simp [carries_skip, strings]

/-! ### READ TEMPERATURES -/

@[simp] theorem freeBytes_length (draw : Nat) : ∀ k offset, (freeBytes draw offset k).length = k
  | 0, _ => rfl
  | k + 1, offset => by rw [freeBytes, List.length_cons, freeBytes_length draw k]

/-- The two bytes of a probe's raw count. -/
def rawBytes (draw offset : Nat) (q : ProbeState) : List Byte :=
  match q.last with
  | some r => natBytes 2 r.raw
  | none => freeBytes draw offset 2

@[simp] theorem rawBytes_length (draw offset : Nat) (q : ProbeState) : (rawBytes draw offset q).length = 2 := by
  unfold rawBytes; split <;> simp

theorem probeBytes_eq (draw offset : Nat) (q : ProbeState) : probeBytes draw offset q =
    natBytes 1 q.state.code ++ natBytes 1 ((q.last.map fun r => r.cls.code).getD 0) ++ rawBytes draw offset q ++
    intBytes 2 (q.f.getD (-32768)) ++ natBytes 1 q.good ++ natBytes 1 q.badOpen ++ natBytes 1 q.badShort ++ natBytes 1 q.spikes := rfl

theorem probeBytes_length (draw offset : Nat) (q : ProbeState) : (probeBytes draw offset q).length = 10 := by simp [probeBytes_eq]

theorem probe_fields (draw offset : Nat) (q : ProbeState) :
    Carries (probeBytes draw offset q) 0 (natBytes 1 q.state.code) ∧
    Carries (probeBytes draw offset q) 1 (natBytes 1 ((q.last.map fun r => r.cls.code).getD 0)) ∧
    (∀ r, q.last = some r → Carries (probeBytes draw offset q) 2 (natBytes 2 r.raw)) ∧
    Carries (probeBytes draw offset q) 4 (intBytes 2 (q.f.getD (-32768))) ∧ Carries (probeBytes draw offset q) 6 (natBytes 1 q.good) ∧
    Carries (probeBytes draw offset q) 7 (natBytes 1 q.badOpen) ∧ Carries (probeBytes draw offset q) 8 (natBytes 1 q.badShort) ∧
    Carries (probeBytes draw offset q) 9 (natBytes 1 q.spikes) := by
  have raw (r : Reading) (h : q.last = some r) : rawBytes draw offset q = natBytes 2 r.raw := by rw [rawBytes, h]
  simp +contextual [probeBytes_eq, carries_skip, raw]

theorem laneTempBytes_length (k : LaneTemp) : (laneTempBytes k).length = 6 := by simp [laneTempBytes]

theorem tempFlags_eq (k : LaneTemp) : k.frost.toNat + 2 * k.hot.toNat = (if k.frost then 1 else 0) + if k.hot then 2 else 0 := by
  cases k.frost <;> cases k.hot <;> rfl

theorem laneTemp_fields (k : LaneTemp) :
    Carries (laneTempBytes k) 0 (intBytes 2 k.value) ∧ Carries (laneTempBytes k) 2 (natBytes 1 k.reported.code) ∧
    Carries (laneTempBytes k) 3 (natBytes 2 (if k.source = .held then k.held / 8000 else 0)) ∧
    Carries (laneTempBytes k) 5 (natBytes 1 ((if k.frost then 1 else 0) + if k.hot then 2 else 0)) := by
  simp [laneTempBytes, carries_skip, LaneTemp.heldSeconds, tempFlags_eq]

section temperatures
variable {draw o : Nat} {m : TempMonitor} {v : List Byte}

theorem probes_length : (Probe.all.flatMap fun p => probeBytes draw (2 * p.number) (m.probe.get p)).length = 40 :=
  flatMap_length (fun _ => probeBytes_length _ _ _) _

theorem laneTemps_length : (Lane.all.flatMap fun l => laneTempBytes (m.lane.get l)).length = 18 :=
  flatMap_length (fun _ => laneTempBytes_length _) _

theorem temperaturesPayload_length : (temperaturesPayload draw m).length = 60 := by
  simp only [temperaturesPayload, List.length_append, probes_length, laneTemps_length, natBytes_length]

theorem temperatures_probe (k : Probe) (h : Carries (probeBytes draw (2 * k.number) (m.probe.get k)) o v) :
    Carries (temperaturesPayload draw m) (10 * k.number + o) v := by
  have inBlock : Carries (Probe.all.flatMap fun p => probeBytes draw (2 * p.number) (m.probe.get p)) (10 * k.number + o) v :=
    h.flatMap (f := fun p : Probe => probeBytes draw (2 * p.number) (m.probe.get p)) (fun _ => probeBytes_length _ _ _)
      (by cases k <;> rfl)
  exact inBlock.append_left.append_left

theorem temperatures_lane (l : Lane) (h : Carries (laneTempBytes (m.lane.get l)) o v) :
    Carries (temperaturesPayload draw m) (40 + 6 * (l.number - 1) + o) v := by
  have inBlock : Carries (Lane.all.flatMap fun l => laneTempBytes (m.lane.get l)) (6 * (l.number - 1) + o) v :=
    h.flatMap (f := fun l : Lane => laneTempBytes (m.lane.get l)) (fun _ => laneTempBytes_length _) (by cases l <;> rfl)
  exact inBlock.append_right.append_left.at (by rw [probes_length, ← Nat.add_assoc])

theorem temperatures_discards : Carries (temperaturesPayload draw m) 58 (natBytes 2 m.discards) :=
  carries_self.append_right.at (by simp only [List.length_append, probes_length, laneTemps_length])

end temperatures

/-! ### READ DRIFT -/

@[simp] theorem evaluationBytes_length (draw offset : Nat) (e : Option Evaluation) : (evaluationBytes draw offset e).length = 12 := by
  cases e <;> simp [evaluationBytes]

theorem evaluation_fields (draw offset : Nat) (e : Evaluation) :
    Carries (evaluationBytes draw offset (some e)) 0 (natBytes 2 e.mean) ∧
    Carries (evaluationBytes draw offset (some e)) 2 (natBytes 4 e.ratio) ∧
    Carries (evaluationBytes draw offset (some e)) 6 (natBytes 4 e.unlimited) ∧
    Carries (evaluationBytes draw offset (some e)) 10 (natBytes 2 e.limited) := by
  simp [evaluationBytes, carries_skip]

@[simp] theorem applicationBytes_length (draw offset : Nat) (x : Option Application) : (applicationBytes draw offset x).length = 3 := by
  cases x <;> simp [applicationBytes]

theorem application_kind (draw offset : Nat) (x : Option Application) :
    Carries (applicationBytes draw offset x) 0 (natBytes 1 ((x.map fun a => a.kind.code).getD 0)) := by
  cases x with
  | none => rfl
  | some a => exact carries_head

theorem application_value (draw offset : Nat) (a : Application) :
    Carries (applicationBytes draw offset (some a)) 1 (natBytes 2 a.value) := by
  simp [applicationBytes, carries_skip]

theorem driftBytes_length (s : State) (l : Lane) : (driftBytes s l).length = 25 := by simp [driftBytes]

theorem drift_fields (s : State) (l : Lane) :
    Carries (driftBytes s l) 0 (natBytes 1 (s.laneSet l).driftMode.code) ∧
    CarriesBool (driftBytes s l) 1 ((s.laneSet l).driftMode == .auto && !s.site.autoDrift) ∧
    Carries (driftBytes s l) 2 (natBytes 2 (s.sst.active.drift.get l)) ∧
    Carries (driftBytes s l) 4 (natBytes 1 (s.tracker l).window.length) ∧
    Carries (driftBytes s l) 18 (natBytes 2 ((s.tracker l).proposal.getD 0)) ∧
    Carries (driftBytes s l) 23 (natBytes 2 (s.tracker l).evals) := by
  simp [driftBytes, worksAsPropose, carries_skip, CarriesBool, CarriesNat, boolByte_eq]

theorem carries_boolByte (b : Bool) : CarriesBool (boolByte b) 0 b := by rw [boolByte_eq]; exact carries_self

theorem drift_evaluated (s : State) (l : Lane) : CarriesBool (driftBytes s l) 5 (s.tracker l).last.isSome :=
  (carries_boolByte _).append_right.append_left.append_left.append_left.append_left.at (by simp)

theorem drift_evaluation {s : State} {l : Lane} {o : Nat} {v : List Byte}
    (h : Carries (evaluationBytes s.freeCount (16 * l.number) (s.tracker l).last) o v) : Carries (driftBytes s l) (6 + o) v :=
  h.append_right.append_left.append_left.append_left.at (by simp)

theorem drift_application {s : State} {l : Lane} {o : Nat} {v : List Byte}
    (h : Carries (applicationBytes s.freeCount (16 * l.number + 12) (s.tracker l).app) o v) : Carries (driftBytes s l) (20 + o) v :=
  h.append_right.append_left.at (by simp)

theorem driftLanes_length (s : State) : (Lane.all.flatMap (driftBytes s)).length = 75 := flatMap_length (driftBytes_length s) _

theorem driftPayload_length (s : State) : (driftPayload s).length = 79 := by
  simp only [driftPayload, bitBytes, List.length_append, driftLanes_length, natBytes_length]

theorem drift_lane {s : State} {o : Nat} {v : List Byte} (l : Lane) (h : Carries (driftBytes s l) o v) :
    Carries (driftPayload s) (25 * (l.number - 1) + o) v :=
  (h.flatMap (driftBytes_length s) (xs := Lane.all) (by cases l <;> rfl)).append_left

theorem drift_generation (s : State) : Carries (driftPayload s) 75 (natBytes 4 s.generation.toNat) :=
  carries_self.append_right.at (driftLanes_length s)

/-! ### READ RUN: two-byte figures -/

section padded
variable {pad : Nat → List Byte}

theorem paddedWords_length (size : ∀ k, (pad k).length = 2) : ∀ n xs, (paddedWords pad n xs).length = 2 * n
  | 0, _ => rfl
  | n + 1, [] => by rw [paddedWords, List.length_append, size, paddedWords_length size n]; omega
  | n + 1, x :: xs => by rw [paddedWords, List.length_append, natBytes_length, paddedWords_length size n]; omega

/-- The k-th figure of the list stands in the k-th place. -/
theorem paddedWords_word : ∀ {n k : Nat} {xs : List Nat} {w : Nat}, k < n → xs[k]? = some w →
    Carries (paddedWords pad n xs) (2 * k) (natBytes 2 w)
  | _ + 1, _, [], _, _, e => by simp at e
  | _ + 1, 0, x :: xs, w, _, e => by
    obtain rfl : x = w := by simpa using e
    exact carries_head
  | n + 1, k + 1, x :: xs, w, h, e =>
    (paddedWords_word (n := n) (k := k) (by omega) (by simpa using e)).append_right.at (by rw [natBytes_length]; omega)

/-- A place beyond the list holds what it is padded with. -/
theorem paddedWords_beyond {v : List Byte} (same : ∀ k, pad k = v) (two : v.length = 2) : ∀ {n k : Nat} {xs : List Nat}, k < n →
    xs[k]? = none → Carries (paddedWords pad n xs) (2 * k) v
  | n + 1, 0, [], _, _ => by rw [paddedWords, same]; exact carries_head
  | n + 1, k + 1, [], h, _ =>
    (paddedWords_beyond same two (n := n) (k := k) (by omega) rfl).append_right.at (by rw [same, two]; omega)
  | _ + 1, 0, x :: xs, _, e => by simp at e
  | n + 1, k + 1, x :: xs, h, e =>
    (paddedWords_beyond same two (n := n) (k := k) (by omega) (by simpa using e)).append_right.at (by rw [natBytes_length]; omega)

end padded

@[simp] theorem zeroPadded_length (xs : List Nat) : (zeroPadded xs).length = 24 := paddedWords_length (fun _ => rfl) 12 xs

@[simp] theorem freePadded_length (draw offset : Nat) (xs : List Nat) : (freePadded draw offset xs).length = 24 :=
  paddedWords_length (fun _ => freeBytes_length _ _ _) 12 xs

theorem zeroPadded_word {k : Nat} (h : k < 12) (xs : List Nat) : Carries (zeroPadded xs) (2 * k) (natBytes 2 (xs.getD k 0)) := by
  rw [List.getD_eq_getElem?_getD]
  cases e : xs[k]? with
  | some w => exact paddedWords_word h e
  | none => exact paddedWords_beyond (v := natBytes 2 0) (fun _ => rfl) rfl h e

theorem freePadded_word {draw offset k w : Nat} {xs : List Nat} (h : k < 12) (e : xs[k]? = some w) :
    Carries (freePadded draw offset xs) (2 * k) (natBytes 2 w) := paddedWords_word h e

/-! ### READ RUN: passes and points -/

/-- The figures of a pending pass, after the byte that says there is one. -/
def pendingFigures (draw : Nat) (x : PendingPass) : List Byte :=
  natBytes 4 x.number ++ natBytes 2 x.speed ++ freePadded draw 0 x.loads ++ freePadded draw 24 x.wU ++ freePadded draw 48 x.wD

theorem pendingPassBytes_some (draw : Nat) (x : PendingPass) : pendingPassBytes draw (some x) = natBytes 1 1 ++ pendingFigures draw x := by
  simp [pendingPassBytes, pendingFigures, natBytes]

@[simp] theorem pendingPassBytes_length (draw : Nat) (x : Option PendingPass) : (pendingPassBytes draw x).length = 79 := by
  cases x <;> simp [pendingPassBytes]

theorem pendingPass_present (draw : Nat) (x : Option PendingPass) : CarriesBool (pendingPassBytes draw x) 0 x.isSome := by
  cases x with
  | none => rfl
  | some x => rw [pendingPassBytes_some]; exact carries_head

theorem pendingPass_none (draw : Nat) : Carries (pendingPassBytes draw none) 1 (List.replicate 78 0) := rfl

theorem pendingPass_figures {draw o : Nat} {x : PendingPass} {v : List Byte} (h : Carries (pendingFigures draw x) o v) :
    Carries (pendingPassBytes draw (some x)) (1 + o) v := by
  rw [pendingPassBytes_some]; exact h.append_right.at (by rw [natBytes_length])

theorem pending_fields (draw : Nat) (x : PendingPass) :
    Carries (pendingFigures draw x) 0 (natBytes 4 x.number) ∧ Carries (pendingFigures draw x) 4 (natBytes 2 x.speed) := by
  simp [pendingFigures, carries_skip]

/-- The axle figures of a pending pass: the vehicle's loads, and its weights on the U and on the D row. -/
theorem pending_words {draw k w : Nat} (h : k < 12) (x : PendingPass) :
    (x.loads[k]? = some w → Carries (pendingFigures draw x) (6 + 2 * k) (natBytes 2 w)) ∧
    (x.wU[k]? = some w → Carries (pendingFigures draw x) (30 + 2 * k) (natBytes 2 w)) ∧
    (x.wD[k]? = some w → Carries (pendingFigures draw x) (54 + 2 * k) (natBytes 2 w)) := by
  refine ⟨fun e => ?_, fun e => ?_, fun e => ?_⟩
  · exact (freePadded_word h e).append_right.append_left.append_left.at (by simp)
  · exact (freePadded_word h e).append_right.append_left.at (by simp)
  · exact (freePadded_word h e).append_right.at (by simp)

theorem passBytes_length (draw offset : Nat) (a : AcceptedPass) : (passBytes draw offset a).length = 39 := by simp [passBytes]

theorem passesBytes_length (draw : Nat) : ∀ offset xs, (passesBytes draw offset xs).length = 39 * xs.length
  | _, [] => rfl
  | offset, a :: rest => by
    rw [passesBytes, List.length_append, passBytes_length, passesBytes_length draw (offset + 24) rest, List.length_cons]; omega

/-- Where the fields of an accepted pass stand, wherever its free bytes are drawn from. -/
theorem pass_fields (draw : Nat) (a : AcceptedPass) :
    (∀ offset, Carries (passBytes draw offset a) 0 (natBytes 4 a.number)) ∧
    (∀ offset, Carries (passBytes draw offset a) 4 (natBytes 2 a.speed)) ∧
    (∀ offset, Carries (passBytes draw offset a) 6 (natBytes 1 (a.point + 1))) ∧
    (∀ offset, Carries (passBytes draw offset a) 7 (natBytes 4 a.ratioU)) ∧
    (∀ offset, Carries (passBytes draw offset a) 11 (natBytes 4 a.ratioD)) := by
  simp [passBytes, carries_skip]

theorem pass_load {k w : Nat} {a : AcceptedPass} (h : k < 12) (e : a.loads[k]? = some w) (draw offset : Nat) :
    Carries (passBytes draw offset a) (15 + 2 * k) (natBytes 2 w) :=
  (freePadded_word h e).append_right.at (by simp)

/-- What every layout of a pass carries, the n-th pass carries after n passes: only its free bytes differ from place to place. -/
theorem passes_pass {draw o : Nat} {x : AcceptedPass} {v : List Byte} (h : ∀ offset, Carries (passBytes draw offset x) o v) :
    ∀ {offset n : Nat} {xs : List AcceptedPass}, xs[n]? = some x → Carries (passesBytes draw offset xs) (39 * n + o) v
  | _, _, [], e => by simp at e
  | offset, 0, y :: ys, e => by
    obtain rfl : y = x := by simpa using e
    exact (h offset).append_left.at (by omega)
  | offset, n + 1, y :: ys, e =>
    (passes_pass h (offset := offset + 24) (n := n) (xs := ys) (by simpa using e)).append_right.at (by rw [passBytes_length]; omega)

theorem pointBytes_length (x : SpeedPoint) : x.bytes.length = 15 := by simp [SpeedPoint.bytes]

theorem meanRatio_getD (sum count : Nat) :
    (meanRatio sum count).getD 0 = if count = 0 then 0 else (2 * sum + count) / (2 * count) := by
  unfold meanRatio; split <;> rfl

/-- A point's proposal from its present y and its mean ratio (R137). -/
theorem proposalOf_meanRatio (y : Int) (sum count : Nat) : proposalOf y (meanRatio sum count) = ProposedY y sum count := by
  unfold meanRatio ProposedY; split <;> rfl

theorem point_fields (x : SpeedPoint) :
    Carries x.bytes 0 (intBytes 2 x.x) ∧ Carries x.bytes 2 (natBytes 1 x.count) ∧
    Carries x.bytes 3 (natBytes 4 (if x.count = 0 then 0 else (2 * x.sumU + x.count) / (2 * x.count))) ∧
    Carries x.bytes 7 (natBytes 4 (if x.count = 0 then 0 else (2 * x.sumD + x.count) / (2 * x.count))) ∧
    Carries x.bytes 11 (intBytes 2 (ProposedY x.yU x.sumU x.count)) ∧ Carries x.bytes 13 (intBytes 2 (ProposedY x.yD x.sumD x.count)) := by
  simp [SpeedPoint.bytes, SpeedPoint.proposalU, SpeedPoint.proposalD, meanRatio_getD, proposalOf_meanRatio, carries_skip]

/-! ### READ RUN: the reply -/

section run
variable {draw o : Nat} {u : RunUnit} {v : List Byte}

/-- The fields of READ RUN before the pending pass. -/
def runHead (u : RunUnit) : List Byte :=
  natBytes 1 u.state.code ++ natBytes 1 ((u.owner.map Port.number).getD 0) ++ natBytes 1 ((u.lane.map Lane.number).getD 0) ++
  natBytes 1 u.result.code ++ natBytes 1 u.loads.length ++ zeroPadded u.loads

/-- The counts of READ RUN between the pending pass and the accepted passes. -/
def runCounts (u : RunUnit) : List Byte := natBytes 2 u.skipped ++ natBytes 1 u.passes.length ++ natBytes 1 u.points.length

theorem runHead_length : (runHead u).length = 29 := by simp [runHead]
theorem runCounts_length : (runCounts u).length = 4 := by simp [runCounts]
theorem points_length : (u.points.flatMap SpeedPoint.bytes).length = 15 * u.points.length := flatMap_length pointBytes_length _

theorem runPayload_eq : runPayload draw u = runHead u ++ pendingPassBytes draw u.pass ++ runCounts u ++ passesBytes draw 72 u.passes ++
    u.points.flatMap SpeedPoint.bytes := by
  simp only [runPayload, runHead, runCounts, List.append_assoc]

theorem runPayload_length : (runPayload draw u).length = 112 + 39 * u.passes.length + 15 * u.points.length := by
  simp only [runPayload_eq, List.length_append, runHead_length, pendingPassBytes_length, runCounts_length, passesBytes_length,
    points_length]

theorem run_head (h : Carries (runHead u) o v) : Carries (runPayload draw u) o v := by
  rw [runPayload_eq]; exact h.append_left.append_left.append_left.append_left

theorem run_pending (h : Carries (pendingPassBytes draw u.pass) o v) : Carries (runPayload draw u) (29 + o) v := by
  rw [runPayload_eq]; exact h.append_right.append_left.append_left.append_left.at (by rw [runHead_length])

theorem run_counts (h : Carries (runCounts u) o v) : Carries (runPayload draw u) (108 + o) v := by
  rw [runPayload_eq]
  exact h.append_right.append_left.append_left.at (by rw [List.length_append, runHead_length, pendingPassBytes_length])

theorem run_pass {n : Nat} {x : AcceptedPass} (e : u.passes[n]? = some x) (h : ∀ offset, Carries (passBytes draw offset x) o v) :
    Carries (runPayload draw u) (112 + 39 * n + o) v := by
  rw [runPayload_eq]
  refine (passes_pass h e).append_right.append_left.at ?_
  simp only [List.length_append, runHead_length, pendingPassBytes_length, runCounts_length, ← Nat.add_assoc]

theorem run_point {n : Nat} {x : SpeedPoint} (e : u.points[n]? = some x) (h : Carries x.bytes o v) :
    Carries (runPayload draw u) (112 + 39 * u.passes.length + 15 * n + o) v := by
  rw [runPayload_eq]
  refine (h.flatMap pointBytes_length e).append_right.at ?_
  simp only [List.length_append, runHead_length, pendingPassBytes_length, runCounts_length, passesBytes_length, ← Nat.add_assoc]

end run

theorem runHead_fields (u : RunUnit) :
    Carries (runHead u) 0 (natBytes 1 u.state.code) ∧ Carries (runHead u) 1 (natBytes 1 ((u.owner.map Port.number).getD 0)) ∧
    Carries (runHead u) 2 (natBytes 1 ((u.lane.map Lane.number).getD 0)) ∧ Carries (runHead u) 3 (natBytes 1 u.result.code) ∧
    Carries (runHead u) 4 (natBytes 1 u.loads.length) := by
  simp [runHead, carries_skip]

theorem runHead_load {k : Nat} (h : k < 12) (u : RunUnit) : Carries (runHead u) (5 + 2 * k) (natBytes 2 (u.loads.getD k 0)) :=
  (zeroPadded_word h u.loads).append_right.at (by simp)

theorem runCounts_fields (u : RunUnit) :
    Carries (runCounts u) 0 (natBytes 2 u.skipped) ∧ Carries (runCounts u) 2 (natBytes 1 u.passes.length) ∧
    Carries (runCounts u) 3 (natBytes 1 u.points.length) := by
  simp [runCounts, carries_skip]

/-! ### The requests -/

/-- A direct request that passes its checks, and whose rule takes at most a draw of free values before it answers: it is answered OK,
and nothing but the port, the holder's lease and the draw counter is touched. -/
theorem read_answers {s u : State} {p : Port} {dest code : Byte} {answer : List Byte} {needs : Privileges → Bool} {act : State → Action}
    {n : Nat} {holds : List Byte → Prop} (taken : TakenDirect s p dest []) (allowed : needs (s.may p) = true)
    (acts : act (inHand p dest code [] s) = okWith answer u) (draws : AgreeOutside [.freeCount] (inHand p dest code [] s) u)
    (size : answer.length = n) (held : holds answer) :
    ∃ t answer, Host.Outcome.next (takeRequest false (exactly 0 []) needs act p dest code [] s) =
      (.next t : Host.Outcome State Fault Refusal) ∧ Answered s t p dest code [] .ok answer ∧ answer.length = n ∧ holds answer ∧
      t.sst = LeaseRestarted p s.sst ∧ AgreeOutside [.port, .sst, .freeCount] s t := by
  have taking := (inHand_frame p dest code [] s).mono (M := [.port, .sst, .freeCount]) (by decide)
  have telling := (settle_frame p dest u .ok answer).mono (M := [.port, .sst, .freeCount]) (by decide)
  refine ⟨settleAction p dest (okWith answer u), answer, ?_, answered_of_answer (draws .port (by decide)), size, held,
    (draws .sst (by decide)).trans (inHand_sst _ _ _ _ _), (taking.trans (draws.mono (by decide))).trans telling⟩
  rw [takeRequest_passes taken (len := exactly 0 []) rfl allowed, acts]

/-- Settles O49: each reply is worked out in the state with the request in hand, which differs from the one before it in the port and
the holder's lease. -/
theorem readsAnswerAndChangeNothing : Obligations.ReadsAnswerAndChangeNothing := by
  intro s p dest taken
  refine ⟨read_answers (act := actIdentify p) taken rfl rfl (.refl _ _) (identifyPayload_length _ _) ?_, fun read =>
    ⟨read_answers (needs := Privileges.read) (act := actReadTemperatures) taken read rfl (drawn_frame _) temperaturesPayload_length ?_,
      read_answers (needs := Privileges.read) (act := actReadDrift) taken read rfl (drawn_frame _) (driftPayload_length _) ?_,
      read_answers (needs := Privileges.read) (act := actReadRun) taken read rfl (drawn_frame _)
        (by rw [runPayload_length, inHand_rru]) ?_⟩⟩
  · simpa [LeaseRestarted] using identify_fields p (inHand p dest 1 [] s)
  · rw [inHand_ptm]
    refine ⟨fun k => ?_, fun l => ?_, temperatures_discards⟩
    · obtain ⟨state, cls, raw, f, good, badOpen, badShort, spikes⟩ :=
        probe_fields (inHand p dest 5 [] s).freeCount (2 * k.number) (s.ptm.probe.get k)
      exact ⟨temperatures_probe k state, temperatures_probe k cls, fun r h => temperatures_probe k (raw r h), temperatures_probe k f,
        temperatures_probe k good, temperatures_probe k badOpen, temperatures_probe k badShort, temperatures_probe k spikes⟩
    · obtain ⟨value, source, held, flags⟩ := laneTemp_fields (s.laneTemp l)
      exact ⟨temperatures_lane l value, temperatures_lane l source, temperatures_lane l held, temperatures_lane l flags⟩
  · have laneSet (l : Lane) : s.laneSet l = (inHand p dest 25 [] s).laneSet l := by simp
    have site : s.site = (inHand p dest 25 [] s).site := by simp
    have drift : s.sst.active.drift = (inHand p dest 25 [] s).sst.active.drift := by simp
    have tracker (l : Lane) : s.tracker l = (inHand p dest 25 [] s).tracker l := by simp
    have generation : s.generation = (inHand p dest 25 [] s).generation := by simp
    simp only [laneSet, site, drift, tracker, generation]
    generalize inHand p dest 25 [] s = g
    refine ⟨fun l => ?_, drift_generation g⟩
    obtain ⟨mode, propose, factor, window, proposal, evals⟩ := drift_fields g l
    refine ⟨drift_lane l mode, drift_lane l propose, drift_lane l factor, drift_lane l window, drift_lane l (drift_evaluated g l),
      fun e last => ?_, drift_lane l proposal, drift_lane l (drift_application (application_kind _ _ _)),
      fun x pending => ?_, drift_lane l evals⟩
    · obtain ⟨mean, ratio, unlimited, limited⟩ := evaluation_fields g.freeCount (16 * l.number) e
      rw [← last] at mean ratio unlimited limited
      exact ⟨drift_lane l (drift_evaluation mean), drift_lane l (drift_evaluation ratio), drift_lane l (drift_evaluation unlimited),
        drift_lane l (drift_evaluation limited)⟩
    · have value := application_value g.freeCount (16 * l.number + 12) x
      rw [← pending] at value
      exact drift_lane l (drift_application value)
  · rw [inHand_rru]
    generalize (inHand p dest 22 [] s).freeCount = draw
    generalize s.rru = u
    obtain ⟨state, owner, lane, result, declared⟩ := runHead_fields u
    obtain ⟨skipped, passes, points⟩ := runCounts_fields u
    have zeros := pendingPass_none draw
    refine ⟨run_head state, run_head owner, run_head lane, run_head result, run_head declared, fun k h => run_head (runHead_load h u),
      (run_pending (pendingPass_present draw u.pass)).at rfl, fun absent => ?_, fun x pending => ?_, (run_counts skipped).at rfl,
      (run_counts passes).at rfl, (run_counts points).at rfl, fun n x e => ?_, fun n x e => ?_⟩
    · rw [← absent] at zeros
      exact (run_pending zeros).at rfl
    · have figures {o : Nat} {v : List Byte} (h : Carries (pendingFigures draw x) o v) : Carries (runPayload draw u) (30 + o) v :=
        (run_pending (pending ▸ pendingPass_figures h)).at (by omega)
      obtain ⟨number, speed⟩ := pending_fields draw x
      refine ⟨(figures number).at rfl, (figures speed).at rfl, fun k w h => ?_⟩
      obtain ⟨load, weightU, weightD⟩ := pending_words (draw := draw) (w := w) h x
      exact ⟨fun e => (figures (load e)).at (by omega), fun e => (figures (weightU e)).at (by omega),
        fun e => (figures (weightD e)).at (by omega)⟩
    · obtain ⟨number, speed, point, ratioU, ratioD⟩ := pass_fields draw x
      exact ⟨run_pass e number, (run_pass e speed).at (by omega), (run_pass e point).at (by omega), (run_pass e ratioU).at (by omega),
        (run_pass e ratioD).at (by omega), fun k w h load => (run_pass e (pass_load h load draw)).at (by omega)⟩
    · obtain ⟨at', count, meanU, meanD, yU, yD⟩ := point_fields x
      exact ⟨run_point e at', run_point e count, run_point e meanU, run_point e meanD, run_point e yU, run_point e yD⟩

end Sys2Proof.Machine
end

section
/-! The arbiter's choice and the grants it makes (R153 to R155, R166), and the programming of the stored image (R154, R181). -/

namespace Sys2Proof.Machine

/-! ### The port of the port group's grant (R155) -/

/-- The order in which the port group looks at its ports. -/
def portOrder (mode : ArbiterMode) (last : Port) : List Port :=
  match mode with
  | .rotating => portsAfter last
  | .fixed => Port.all

theorem chosenPort_eq_find (s : State) :
    s.chosenPort = (portOrder s.site.arbiterMode s.sea.last2).find? fun p => (s.sitePort p).waits := by
  unfold State.chosenPort portOrder; split <;> simp only [*]

theorem portOrder_turns (mode : ArbiterMode) (last : Port) :
    (portOrder mode last).Pairwise fun p q => Port.turn mode last p < Port.turn mode last q := by
  cases mode <;> cases last <;> decide

theorem mem_portOrder (mode : ArbiterMode) (last p : Port) : p ∈ portOrder mode last := by
  cases mode <;> cases last <;> cases p <;> decide

/-- In a list in the order of a measure, the first member to satisfy a condition is the one of least measure. -/
theorem find_eq_some_iff_least {α : Type} {f : α → Nat} (w : α → Bool) {p : α} : ∀ {xs : List α}, xs.Pairwise (fun x y => f x < f y) →
    (xs.find? w = some p ↔ p ∈ xs ∧ w p = true ∧ ∀ q ∈ xs, w q = true → f p ≤ f q)
  | [], _ => by simp
  | x :: xs, order => by
    obtain ⟨first, order⟩ := List.pairwise_cons.mp order
    cases h : w x with
    | true =>
      rw [List.find?_cons_of_pos h, Option.some_inj]
      refine ⟨?_, fun ⟨mem, _, least⟩ => ?_⟩
      · rintro rfl
        exact ⟨List.mem_cons_self, h, List.forall_mem_cons.mpr ⟨fun _ => Nat.le_refl _, fun q mem _ => Nat.le_of_lt (first q mem)⟩⟩
      · rcases List.mem_cons.mp mem with e | later
        · exact e.symm
        · exact absurd (least x List.mem_cons_self h) (Nat.not_le.mpr (first p later))
    | false =>
      have not_x : w p = true → p ≠ x := fun wp e => by simp [e, h] at wp
      rw [List.find?_cons_of_neg (by simp [h]), find_eq_some_iff_least w order]
      constructor
      · rintro ⟨mem, wp, least⟩
        exact ⟨List.mem_cons_of_mem x mem, wp, List.forall_mem_cons.mpr ⟨fun wx => by simp [h] at wx, least⟩⟩
      · rintro ⟨mem, wp, least⟩
        exact ⟨(List.mem_cons.mp mem).resolve_left (not_x wp), wp, (List.forall_mem_cons.mp least).2⟩

theorem chosenPort_eq_some_iff (s : State) (p : Port) : s.chosenPort = some p ↔ NextPort s p := by
  rw [chosenPort_eq_find, find_eq_some_iff_least _ (portOrder_turns s.site.arbiterMode s.sea.last2)]
  simp only [mem_portOrder, true_and, true_implies]; rfl

/-! ### The other ports during a grant (R166) -/

/-- A port is in the same state with the same request in its receive buffer. -/
def SameRequest (a b : SitePort) : Prop := b.state = a.state ∧ b.rx = a.rx

theorem SameRequest.trans {a b c : SitePort} (h : SameRequest a b) (k : SameRequest b c) : SameRequest a c :=
  ⟨k.1.trans h.1, k.2.trans h.2⟩

theorem rateCommit_sameRequest (rate : LineRate) (q : SitePort) : SameRequest q (q.rateCommit rate) := by
  unfold SitePort.rateCommit; split <;> exact ⟨rfl, rfl⟩

theorem OnlyLatched.sameRequest {s t : State} (h : OnlyLatched s t) (p : Port) : SameRequest (s.sitePort p) (t.sitePort p) := by
  rw [h.2 p]; exact ⟨rfl, rfl⟩

theorem sameRequest_of_port {s t : State} (h : t.port = s.port) (p : Port) : SameRequest (s.sitePort p) (t.sitePort p) := by
  simp [SameRequest, h]

/-- A commit applied latches conditions and retells the line rates, and takes no request away (R164, R180). -/
theorem applyCommit_sameRequest (new : Settings) (s : State) (p : Port) :
    SameRequest (s.sitePort p) ((applyCommit new s).sitePort p) := by
  have told : SameRequest (s.sitePort p) ((blocksTold new s).sitePort p) := by
    rw [blocksTold_eq, portsCommit_port]
    exact ((monitorTold_latches new s).sameRequest p).trans (rateCommit_sameRequest _ _)
  have link : SameRequest ((blocksTold new s).sitePort p) ((linkCommit s.settings new (blocksTold new s)).sitePort p) :=
    linkCommit_latches.sameRequest p
  rw [applyCommit_eq]
  exact (told.trans link).trans (sameRequest_of_port (startProgramming_frame _ .port (by decide)) p)

theorem reevaluate_sameRequest (p q : Port) (s : State) : SameRequest (s.sitePort q) ((reevaluate p s).sitePort q) := by
  by_cases h : q = p
  · subst h; simp [reevaluate, levelsAt, SitePort.setLevel, SameRequest]
  · simp [reevaluate, h, SameRequest]

/-- A granted request that answers in a state where every port has its request still. -/
def AnswersKeeping (s : State) (a : Action) : Prop :=
  ∃ u st answer, a = .answer u st answer ∧ ∀ q, SameRequest (s.sitePort q) (u.sitePort q)

theorem answersKeeping_of_port {s u : State} {st : Status} {answer : List Byte} (h : u.port = s.port) :
    AnswersKeeping s (.answer u st answer) := ⟨u, st, answer, rfl, sameRequest_of_port h⟩

theorem answersKeeping_reevaluate (p : Port) (x : RecordStore) (s : State) :
    AnswersKeeping s (okay (reevaluate p (s.withRst x))) := ⟨_, _, _, rfl, fun q => reevaluate_sameRequest p q (s.withRst x)⟩

theorem grantRelease_answers (p : Port) (payload : List Byte) (s : State) : AnswersKeeping s (grantRelease p payload s) := by
  unfold grantRelease
  dsimp only
  split
  · exact answersKeeping_of_port rfl
  · split
    · exact answersKeeping_of_port rfl
    · exact answersKeeping_reevaluate p _ s

theorem grantSeek_answers (p : Port) (payload : List Byte) (s : State) : AnswersKeeping s (grantSeek p payload s) := by
  unfold grantSeek
  dsimp only
  split
  · exact answersKeeping_reevaluate p _ s
  · exact answersKeeping_reevaluate p _ s
  · split
    · exact answersKeeping_reevaluate p _ s
    · exact answersKeeping_of_port rfl

theorem grantCommit_answers (p : Port) (s : State) : AnswersKeeping s (grantCommit p s) := by
  unfold grantCommit
  split
  · exact answersKeeping_of_port rfl
  · split
    · exact answersKeeping_of_port rfl
    · split
      · exact answersKeeping_of_port rfl
      · split
        · exact answersKeeping_of_port rfl
        · split
          · exact answersKeeping_of_port rfl
          · split
            · exact answersKeeping_of_port rfl
            · exact ⟨_, _, _, rfl, applyCommit_sameRequest _ s⟩

/-- Whatever its code, a granted request is answered and takes no port's request away. -/
theorem executeHeld_answers (p : Port) (code : Nat) (payload : List Byte) (s : State) :
    AnswersKeeping s (executeHeld p code payload s) := by
  unfold executeHeld
  split
  · exact answersKeeping_of_port (drawn_frame s .port (by decide))
  · exact answersKeeping_of_port rfl
  · exact grantRelease_answers p payload s
  · exact grantSeek_answers p payload s
  · exact answersKeeping_reevaluate p _ s
  · exact grantCommit_answers p s

/-! ### Grants -/

/-- The arbiter once the port group's grant has begun for a port. -/
theorem servePort_beginGrant_sea (p : Port) (s : State) :
    (servePort p (beginGrant .portGroup s)).sea = ⟨.portGroup, p, .granted .portGroup⟩ := rfl

theorem portGrantExecute_next {s : State} {p : Port} (group : NextMember s .portGroup) (next : NextPort s p) :
    portGrantExecute s = endGrant (settleAction p ((s.sitePort p).rx.headD 0)
      (executeHeld p (s.sitePort p).code (framePayload (s.sitePort p).rx) (servePort p (beginGrant .portGroup s)))) := by
  rw [portGrantExecute, if_pos ((grantee_eq_some_iff s _).mpr group), (chosenPort_eq_some_iff s p).mpr next]

theorem portGrantExecute_grants {s : State} {p : Port} (group : NextMember s .portGroup) (next : NextPort s p) :
    (portGrantExecute s).sea = ⟨.portGroup, p, .free⟩ ∧ ((portGrantExecute s).sitePort p).state = .reply ∧
      ((portGrantExecute s).sitePort p).driving = false ∧
      ∀ q, q ≠ p → ((portGrantExecute s).sitePort q).state = (s.sitePort q).state ∧
        ((portGrantExecute s).sitePort q).rx = (s.sitePort q).rx := by
  rw [portGrantExecute_next group next]
  generalize (s.sitePort p).code = code
  generalize framePayload (s.sitePort p).rx = payload
  obtain ⟨u, st, answer, acts, kept⟩ := executeHeld_answers p code payload (servePort p (beginGrant .portGroup s))
  have frame := executeHeld_frame p code payload (servePort p (beginGrant .portGroup s))
  rw [acts] at frame ⊢
  have sea : u.sea = ⟨.portGroup, p, .granted .portGroup⟩ := (frame .sea (by decide)).trans (servePort_beginGrant_sea p s)
  refine ⟨by simp [endGrant, settleAction, enterReply, sea], by simp [endGrant, settleAction, enterReply],
    by simp [endGrant, settleAction, enterReply], fun q other => ?_⟩
  have port : (endGrant (settleAction p ((s.sitePort p).rx.headD 0) (.answer u st answer))).sitePort q = u.sitePort q := by
    simp [endGrant, settleAction, enterReply, other]
  rw [port]; exact kept q

theorem recordCommitGrant_next {s : State} {r : Record} {rest : List Record} (next : s.grantee = some .recordCommit)
    (queue : s.rst.queue = r :: rest) :
    recordCommitGrant s = endGrant (commitRecord r rest (beginGrant .recordCommit s)) := by
  rw [recordCommitGrant, if_pos next, queue]

theorem programmingStep_next {s : State} {n : Nat} {m : Image} (next : s.grantee = some .settingsEngine)
    (ready : s.sst.prog = .ready n m) :
    programmingStep s = endGrant ((beginGrant .settingsEngine s).withSst { s.sst with prog := .writing n m }) := by
  rw [programmingStep, if_pos next, ready]; rfl

theorem commitGrant_sea (r : Record) (rest : List Record) (s : State) :
    (endGrant (commitRecord r rest (beginGrant .recordCommit s))).sea = { s.sea with last1 := .recordCommit, engine := .free } := by
  have sea : (commitRecord r rest (beginGrant .recordCommit s)).sea = (beginGrant .recordCommit s).sea :=
    commitRecord_frame r rest _ .sea (by decide)
  rw [endGrant, State.withSea_sea, sea]; rfl

/-- Settles O41: the choice is `grantee_eq_some_iff`'s, and each grant is the chosen member's work between its beginning and its end. -/
theorem arbiterChooses : Obligations.ArbiterChooses := by
  refine ⟨grantee_eq_some_iff, fun s key p group next => ?_, fun s next => ?_, fun s next => ?_, fun s key => ⟨fun no => ?_, fun no => ?_,
    fun no => ?_⟩⟩
  · exact ⟨_, rfl, portGrantExecute_grants (s := s.withKey key) group next⟩
  · obtain ⟨r, rest, queue⟩ := List.exists_cons_of_ne_nil next.2.1
    refine ⟨_, rfl, ?_⟩
    rw [recordCommitGrant_next ((grantee_eq_some_iff s _).mpr next) queue]
    exact commitGrant_sea r rest s
  · obtain ⟨n, m, ready⟩ := next.2.1
    refine ⟨_, rfl, ?_⟩
    rw [programmingStep_next ((grantee_eq_some_iff s _).mpr next) ready]; rfl
  · exact congrArg Host.Outcome.next (if_neg fun chosen => no ((grantee_eq_some_iff s _).mp chosen))
  · exact congrArg Host.Outcome.next (if_neg fun chosen => no ((grantee_eq_some_iff s _).mp chosen))
  · exact congrArg Host.Outcome.next (if_neg fun chosen => no ((grantee_eq_some_iff s _).mp chosen))

/-! ### Programming (R181) -/

theorem programmingWriteDone_good {s : State} {n : Nat} {m : Image} (writing : s.sst.prog = .writing n m) (more : n < 16) :
    programmingWriteDone true s = s.withSst { s.sst with prog := .ready (n + 1) m } := by
  simp [programmingWriteDone, writing, programmingSteps, more]

theorem programmingWriteDone_last {s : State} {m : Image} (writing : s.sst.prog = .writing 16 m) :
    programmingWriteDone true s = s.withSst { s.sst with
      nv := m, nvGood := true, prog := .idle, storeFault := false, settingsState := .valid } := by
  simp [programmingWriteDone, writing, programmingSteps]

theorem programmingWriteDone_failed {s : State} {n : Nat} {m : Image} (writing : s.sst.prog = .writing n m) :
    programmingWriteDone false s = latchDetail .storeFault (s.withSst { s.sst with prog := .idle, storeFault := true }) := by
  simp [programmingWriteDone, writing]

/-- Settles O47: a step's grant, and the three ends of a block's writing. -/
theorem programmingRuns : Obligations.ProgrammingRuns := by
  refine ⟨fun s n m ready next => ?_, fun s n m verified writing => ⟨_, rfl, fun good more => ?_, fun good last => ?_, fun failed => ?_,
    programmingWriteDone_frame verified s⟩⟩
  · have frame := programmingStep_frame s
    rw [programmingStep_next next ready] at frame
    exact ⟨_, congrArg Host.Outcome.next (programmingStep_next next ready), rfl, rfl, frame⟩
  · rw [good, programmingWriteDone_good writing more]; exact ⟨rfl, rfl⟩
  · subst last; rw [good, programmingWriteDone_last writing]; exact ⟨rfl, rfl⟩
  · rw [failed, programmingWriteDone_failed writing]; exact ⟨rfl, fun p => by simp⟩

end Sys2Proof.Machine
end

section
/-! The requests to the record store at their grant: RELEASE, SEEK and SET FILTER (R148, R150 to R152, R176, R183). -/

namespace Sys2Proof.Machine

/-! ### A request that waits for its grant -/

section request
variable {s : State} {p : Port} {dest code : Byte} {payload : List Byte} {key : Bool}

/-- A granted request that came to an action. -/
def grantedWith (p : Port) (dest code : Byte) (payload : List Byte) (key : Bool) (s : State) : State :=
  endGrant (settleAction p dest (executeHeld p code.toNat payload (granted p dest code payload key s)))

/-- A direct request that passes its checks and is the only one to wait: taken it waits, and the next grant executes it. -/
theorem takenAndGranted {i : Instr} {g len : Bool} {needs : Privileges → Bool} {act : State → Action}
    (request : exec i s = .next (takeRequest g len needs act p dest code payload s)) (taken : TakenDirect s p dest payload)
    (long : len = true) (may : needs (s.may p) = true)
    (waiting : act (inHand p dest code payload s) = .wait (inHand p dest code payload s)) (only : OnlyWaiter s p)
    (grants : needsGrant code.toNat = true) :
    TakenAndGranted i key s (settleAction p dest (.wait (inHand p dest code payload s))) (grantedWith p dest code payload key s) := by
  refine ⟨?_, congrArg Host.Outcome.next (portGrant_onlyWaiter only dest code payload key taken.2.1 grants)⟩
  rw [request, takeRequest_passes taken long may, waiting]

/-- A direct request whose own rule refuses it when it is taken. -/
theorem refusedWhenTaken {i : Instr} {g len : Bool} {needs : Privileges → Bool} {act : State → Action} {st : Status}
    (request : exec i s = .next (takeRequest g len needs act p dest code payload s)) (taken : TakenDirect s p dest payload)
    (long : len = true) (may : needs (s.may p) = true)
    (refused : act (inHand p dest code payload s) = refuse st (inHand p dest code payload s)) :
    ∃ t, exec i s = .next t ∧ OnlyAnswered s t p dest code payload st [] := by
  refine ⟨_, request, ?_⟩
  rw [takeRequest_passes taken long may, refused]
  exact onlyAnswered

/-- What every grant leaves whose request works on the store and the ports alone. -/
theorem grantedWith_served
    (work : AgreeOutside [.rst, .port] (granted p dest code payload key s)
      (silently (executeHeld p code.toNat payload (granted p dest code payload key s)))) :
    PortServed s (grantedWith p dest code payload key s) p key ∧ (grantedWith p dest code payload key s).sst = LeaseRestarted p s.sst ∧
      AgreeOutside [.lines, .rst, .sea, .port, .sst] s (grantedWith p dest code payload key s) := by
  unfold grantedWith
  generalize executeHeld p code.toNat payload (granted p dest code payload key s) = a at work ⊢
  have settled : AgreeOutside [.rst, .port] (granted p dest code payload key s) (settleAction p dest a) :=
    work.trans ((settleAction_frame p dest a).mono (by decide))
  have sea : (settleAction p dest a).sea = ⟨.portGroup, p, .granted .portGroup⟩ := (settled .sea (by decide)).trans (granted_sea ..)
  refine ⟨⟨?_, (settled .lines (by decide)).trans (granted_lines ..)⟩, (settled .sst (by decide)).trans (granted_sst ..), ?_⟩
  · rw [endGrant, State.withSea_sea, sea]
  · exact (((granted_frame p dest code payload key s).mono (by decide)).trans (settled.mono (by decide))).trans
      ((endGrant_frame _).mono (by decide))

/-- A granted request that answers with the store and the ports as they were. -/
theorem grantedWith_only {st : Status} {answer : List Byte}
    (acts : executeHeld p code.toNat payload (granted p dest code payload key s) =
      .answer (granted p dest code payload key s) st answer) :
    (grantedWith p dest code payload key s).rst = s.rst ∧
      Answered s (grantedWith p dest code payload key s) p dest code payload st answer := by
  rw [grantedWith, acts]
  exact ⟨granted_rst p dest code payload key s, grantAnswered (by simp)⟩

/-- A granted request that replaces the store's record of cursors and filters: the port's levels are worked out from it (R147). -/
theorem grantedWith_reevaluates {x : RecordStore}
    (acts : executeHeld p code.toNat payload (granted p dest code payload key s) =
      okay (reevaluate p ((granted p dest code payload key s).withRst x))) :
    (grantedWith p dest code payload key s).rst = x ∧ (grantedWith p dest code payload key s).port =
      s.port.set p (AnsweredPort (levelsAt x p (s.sitePort p)) dest code payload .ok []) := by
  rw [grantedWith, acts]
  refine ⟨rfl, ?_⟩
  simp [endGrant, settleAction, okay, enterReply, reevaluate]
  rfl

/-- A granted request that moves its port's cursor. -/
theorem grantedWith_moves {n : Nat}
    (acts : executeHeld p code.toNat payload (granted p dest code payload key s) = okay (moveCursor p n (granted p dest code payload key s))) :
    (grantedWith p dest code payload key s).rst = { s.rst with cursor := s.rst.cursor.set p n } ∧
      (grantedWith p dest code payload key s).port = s.port.set p
        (AnsweredPort (levelsAt (grantedWith p dest code payload key s).rst p (s.sitePort p)) dest code payload .ok []) := by
  rw [moveCursor, granted_rst] at acts
  obtain ⟨rst, port⟩ := grantedWith_reevaluates acts
  exact ⟨rst, by rw [rst]; exact port⟩

end request

/-! ### RELEASE (R150) -/

theorem grantRelease_beyond {p : Port} {payload : List Byte} {s : State} (h : s.rst.next ≤ field payload 0 4) :
    grantRelease p payload s = refuse .invalid s := if_pos h

theorem grantRelease_behind {p : Port} {payload : List Byte} {s : State} (h : field payload 0 4 < s.rst.next)
    (behind : field payload 0 4 + 1 ≤ s.rst.cursor.get p) : grantRelease p payload s = okay s :=
  (if_neg (Nat.not_le.mpr h)).trans (if_pos behind)

theorem grantRelease_ahead {p : Port} {payload : List Byte} {s : State} (h : field payload 0 4 < s.rst.next)
    (ahead : s.rst.cursor.get p < field payload 0 4 + 1) :
    grantRelease p payload s = okay (moveCursor p (field payload 0 4 + 1) s) :=
  (if_neg (Nat.not_le.mpr h)).trans (if_neg (Nat.not_le.mpr ahead))

/-- Settles O36, by the three places of n: at or above the store next number, behind the cursor, and ahead of it. -/
theorem releaseMovesCursor : Obligations.ReleaseMovesCursor := by
  intro s p dest payload key taken four read only
  obtain ⟨served, sst, frame⟩ := grantedWith_served (dest := dest) (code := 7) (key := key)
    (grantRelease_frame p payload (granted p dest 7 payload key s))
  refine ⟨_, _, takenAndGranted rfl taken (exactly_iff.mpr four) read rfl only rfl, waits, served, sst, frame,
    fun beyond => grantedWith_only (grantRelease_beyond ?_), fun known behind => grantedWith_only (grantRelease_behind ?_ ?_),
    fun known ahead => grantedWith_moves (grantRelease_ahead ?_ ?_)⟩
  all_goals rw [granted_rst]; assumption

/-! ### SEEK (R152) -/

theorem seek_mode (mode : Byte) (number : List Byte) : field (mode :: number) 0 1 = mode.toNat := by simp [field, bytesNat]

theorem seek_number (mode : Byte) (number : List Byte) : field (mode :: number) 1 4 = field number 0 4 := rfl

section seek
variable {p : Port} {mode : Byte} {number : List Byte} {s : State}

theorem grantSeek_oldest (h : mode = 0) :
    grantSeek p (mode :: number) s = okay (moveCursor p (s.rst.oldest.getD s.rst.next) s) := by
  simp [grantSeek, seek_mode, h]

theorem grantSeek_newest (h : mode = 1) : grantSeek p (mode :: number) s = okay (moveCursor p s.rst.next s) := by
  simp [grantSeek, seek_mode, h]

theorem grantSeek_number (h : mode = 2) (lo : s.rst.oldest.getD s.rst.next ≤ field number 0 4) (hi : field number 0 4 ≤ s.rst.next) :
    grantSeek p (mode :: number) s = okay (moveCursor p (field number 0 4) s) := by
  simp [grantSeek, seek_mode, seek_number, h, lo, hi]

theorem grantSeek_outside (h : mode = 2) (out : field number 0 4 < s.rst.oldest.getD s.rst.next ∨ s.rst.next < field number 0 4) :
    grantSeek p (mode :: number) s = refuse .invalid s := by
  have no : ¬ (s.rst.oldest.getD s.rst.next ≤ field number 0 4 ∧ field number 0 4 ≤ s.rst.next) := by omega
  simp only [grantSeek, seek_mode, seek_number, h]
  exact if_neg no

theorem actSeek_known (h : mode.toNat ≤ 2) : actSeek (mode :: number) s = .wait s := by
  rw [actSeek, seek_mode]; exact if_pos h

theorem actSeek_unknown (h : 2 < mode.toNat) : actSeek (mode :: number) s = refuse .invalid s := by
  rw [actSeek, seek_mode]; exact if_neg (Nat.not_le.mpr h)

end seek

/-- Settles O37, mode by mode. -/
theorem seekSetsCursor : Obligations.SeekSetsCursor := by
  refine ⟨fun s p dest mode number key taken four known read only => ?_, fun s p dest mode number taken four unknown read =>
    refusedWhenTaken rfl taken (exactly_iff.mpr (by simp [four])) read (actSeek_unknown unknown)⟩
  obtain ⟨served, sst, frame⟩ := grantedWith_served (dest := dest) (code := 8) (key := key)
    (grantSeek_frame p (mode :: number) (granted p dest 8 (mode :: number) key s))
  refine ⟨_, _, takenAndGranted rfl taken (exactly_iff.mpr (by simp [four])) read (actSeek_known known) only rfl, waits, served, sst,
    frame, fun oldest => grantedWith_moves ((grantSeek_oldest oldest).trans ?_),
    fun newest => grantedWith_moves ((grantSeek_newest newest).trans ?_),
    fun numbered lo hi => grantedWith_moves (grantSeek_number numbered ?_ ?_),
    fun numbered out => grantedWith_only (grantSeek_outside numbered ?_)⟩
  · rw [granted_rst]; rfl
  · rw [granted_rst]
  · rw [granted_rst]; exact lo
  · rw [granted_rst]; exact hi
  · rw [granted_rst]; exact out

/-! ### SET FILTER (R151) -/

theorem actSetFilter_full {payload : List Byte} {s : State} (h : (filterOf payload).hasEmpty = false) :
    actSetFilter payload s = .wait s := if_neg (by simp [h])

theorem actSetFilter_empty {payload : List Byte} {s : State} (h : (filterOf payload).hasEmpty = true) :
    actSetFilter payload s = refuse .invalid s := if_pos h

/-- Settles O38: an empty mask is refused by the request's own rule, any other filter waits and is replaced at the grant. -/
theorem setFilterReplaces : Obligations.SetFilterReplaces := by
  refine fun s p dest payload key taken six read => ⟨fun empty =>
    refusedWhenTaken rfl taken (exactly_iff.mpr six) read (actSetFilter_empty empty), fun full only => ?_⟩
  obtain ⟨served, sst, frame⟩ := grantedWith_served (dest := dest) (code := 9) (key := key)
    (replaceFilter_frame p (filterOf payload) (granted p dest 9 payload key s))
  obtain ⟨rst, port⟩ := grantedWith_reevaluates (p := p) (dest := dest) (code := 9) (payload := payload) (key := key) (s := s) rfl
  rw [granted_rst] at rst port
  exact ⟨_, _, takenAndGranted rfl taken (exactly_iff.mpr six) read (actSetFilter_full full) only rfl, waits, served, rst,
    by rw [rst]; exact port, sst, frame⟩

end Sys2Proof.Machine
end

section
/-! READ RECORDS: the examination of the unread records, and the records of the reply in the layout of section 10.3 (R148, R149, R185). -/

namespace Sys2Proof.Machine

/-! ### The examination (R149) -/

theorem recordBytes_cons (r : Record) (rs : List Record) : recordBytes (r :: rs) = r.size + recordBytes rs := by
  simp [recordBytes]

/-- The examination reads some of the records from the front: it takes those that match, as far as they fit, and ends before one that
matches and does not fit, or at the end. -/
theorem examine_spec (f : Filter) : ∀ (rs : List Record) (room : Nat), ∃ k, k ≤ rs.length ∧
    examine f room rs = ((rs.take k).filter f.accepts, (rs.take k).getLast?.map Record.number) ∧
    recordBytes ((rs.take k).filter f.accepts) ≤ room ∧
    ∀ r, rs[k]? = some r → f.accepts r = true ∧ room < recordBytes ((rs.take k).filter f.accepts) + r.size
  | [], room => ⟨0, by simp [examine, recordBytes]⟩
  | r :: rest, room => by
    cases matching : f.accepts r with
    | false =>
      obtain ⟨k, le, reads, fits, ends⟩ := examine_spec f rest room
      refine ⟨k + 1, Nat.succ_le_succ le, ?_, ?_, ?_⟩
      · simp [examine, matching, reads, List.getLast?_cons, Option.getD_map]
      · simpa [matching] using fits
      · simpa [matching] using ends
    | true =>
      by_cases small : r.size ≤ room
      · obtain ⟨k, le, reads, fits, ends⟩ := examine_spec f rest (room - r.size)
        refine ⟨k + 1, Nat.succ_le_succ le, ?_, ?_, ?_⟩
        · simp [examine, matching, small, reads, List.getLast?_cons, Option.getD_map]
        · rw [List.take_succ_cons, List.filter_cons_of_pos matching, recordBytes_cons]; omega
        · intro x next
          obtain ⟨accepted, large⟩ := ends x next
          rw [List.take_succ_cons, List.filter_cons_of_pos matching, recordBytes_cons]
          exact ⟨accepted, by omega⟩
      · refine ⟨0, Nat.zero_le _, by simp [examine, matching, small], by simp [recordBytes], fun x next => ?_⟩
        obtain rfl : r = x := by simpa using next
        exact ⟨matching, by simpa [recordBytes] using small⟩

/-! ### Records in a reply (R185) -/

@[simp] theorem AxleEntry.bytes_length (a : AxleEntry) : a.bytes.length = 8 := by simp [AxleEntry.bytes, bitBytes]

/-- What a record is: its size, number, lane, class, rule, verdict and flags. -/
def Record.kindBytes (r : Record) : List Byte :=
  natBytes 2 r.size ++ natBytes 4 r.number ++ natBytes 1 r.lane.number ++ natBytes 1 r.cls ++
  natBytes 1 (r.ruleIndex.getD 0) ++ natBytes 1 r.verdict.code ++ bitBytes 3 r.flags

/-- A record's overload detail, and its time and calibration generation. -/
def Record.overloadAndTimeBytes (r : Record) : List Byte :=
  natBytes 1 ((r.overload.map fun o => o.kind.code).getD 0) ++ natBytes 1 ((r.overload.map fun o => o.index).getD 0) ++
  natBytes 2 ((r.overload.map fun o => o.excess).getD 0) ++
  bitBytes 4 r.time.sec ++ natBytes 4 r.time.us ++ natBytes 1 r.quality.code ++ bitBytes 4 r.generation

/-- A record's speed, gross weight, axle count and temperature. -/
def Record.measureBytes (r : Record) : List Byte :=
  natBytes 2 (r.speed.getD 0) ++ natBytes 4 r.gross ++ natBytes 1 r.axles.length ++ intBytes 2 r.temp ++ natBytes 1 r.source.code

theorem Record.kindBytes_length (r : Record) : r.kindBytes.length = 13 := by simp [Record.kindBytes, bitBytes]

theorem Record.overloadAndTimeBytes_length (r : Record) : r.overloadAndTimeBytes.length = 17 := by
  simp [Record.overloadAndTimeBytes, bitBytes]

theorem Record.measureBytes_length (r : Record) : r.measureBytes.length = 10 := by simp [Record.measureBytes]

theorem Record.bytes_eq (r : Record) :
    r.bytes = r.kindBytes ++ r.overloadAndTimeBytes ++ r.measureBytes ++ r.axles.flatMap AxleEntry.bytes := by
  unfold Record.bytes Record.kindBytes Record.overloadAndTimeBytes Record.measureBytes
  simp only [List.append_assoc]

section blocks
variable {r : Record} {o : Nat} {v : List Byte}

theorem record_kind (h : Carries r.kindBytes o v) : Carries r.bytes o v := by
  rw [r.bytes_eq]; exact h.append_left.append_left.append_left

theorem record_overloadAndTime (h : Carries r.overloadAndTimeBytes o v) : Carries r.bytes (13 + o) v := by
  rw [r.bytes_eq, ← r.kindBytes_length]; exact h.append_right.append_left.append_left

theorem record_measure (h : Carries r.measureBytes o v) : Carries r.bytes (30 + o) v := by
  rw [r.bytes_eq]
  exact h.append_right.append_left.at (by rw [List.length_append, r.kindBytes_length, r.overloadAndTimeBytes_length])

theorem record_axle {k : Nat} {a : AxleEntry} (e : r.axles[k]? = some a) (h : Carries a.bytes o v) :
    Carries r.bytes (40 + 8 * k + o) v := by
  rw [r.bytes_eq]
  refine (h.flatMap AxleEntry.bytes_length e).append_right.at ?_
  rw [List.length_append, List.length_append, r.kindBytes_length, r.overloadAndTimeBytes_length, r.measureBytes_length]
  omega

end blocks

@[simp] theorem Record.bytes_length (r : Record) : r.bytes.length = r.size := by
  simp [r.bytes_eq, r.kindBytes_length, r.overloadAndTimeBytes_length, r.measureBytes_length, flatMap_length AxleEntry.bytes_length,
    Record.size]
  omega

theorem axle_fields (a : AxleEntry) :
    CarriesNat a.bytes 0 2 a.left ∧ CarriesNat a.bytes 2 2 a.right ∧ CarriesNat a.bytes 4 2 a.spacing ∧
      CarriesNat a.bytes 6 1 a.group ∧ CarriesNat a.bytes 7 1 a.flags.toNat := by
  simp [CarriesNat, AxleEntry.bytes, carries_skip, bitBytes]

/-- The fields inside a record's three blocks. -/
theorem record_fields (r : Record) :
    (CarriesNat r.kindBytes 0 2 r.size ∧ CarriesNat r.kindBytes 2 4 r.number ∧ CarriesNat r.kindBytes 6 1 r.lane.number ∧
      CarriesNat r.kindBytes 7 1 r.cls ∧ CarriesNat r.kindBytes 8 1 (r.ruleIndex.getD 0) ∧ CarriesNat r.kindBytes 9 1 r.verdict.code ∧
      CarriesNat r.kindBytes 10 3 r.flags.toNat) ∧
    (CarriesNat r.overloadAndTimeBytes 0 1 ((r.overload.map fun o => o.kind.code).getD 0) ∧
      CarriesNat r.overloadAndTimeBytes 1 1 ((r.overload.map fun o => o.index).getD 0) ∧
      CarriesNat r.overloadAndTimeBytes 2 2 ((r.overload.map fun o => o.excess).getD 0) ∧
      CarriesNat r.overloadAndTimeBytes 4 4 r.time.sec.toNat ∧ CarriesNat r.overloadAndTimeBytes 8 4 r.time.us ∧
      CarriesNat r.overloadAndTimeBytes 12 1 r.quality.code ∧ CarriesNat r.overloadAndTimeBytes 13 4 r.generation.toNat) ∧
    CarriesNat r.measureBytes 0 2 (r.speed.getD 0) ∧ CarriesNat r.measureBytes 2 4 r.gross ∧
    CarriesNat r.measureBytes 6 1 r.axles.length ∧ Carries r.measureBytes 7 (intBytes 2 r.temp) ∧
    CarriesNat r.measureBytes 9 1 r.source.code := by
  refine ⟨?_, ?_, ?_⟩
  · simp [CarriesNat, Record.kindBytes, carries_skip, bitBytes]
  · simp [CarriesNat, Record.overloadAndTimeBytes, carries_skip, bitBytes]
  · simp [CarriesNat, Record.measureBytes, carries_skip]

/-- A record's bytes are laid out as section 10.3 says, wherever they stand. -/
theorem recordAt_of_carries {answer : List Byte} {offset : Nat} {r : Record}
    (h : ∀ o v, Carries r.bytes o v → Carries answer (offset + o) v) : RecordAt answer offset r := by
  obtain ⟨⟨size, number, lane, cls, rule, verdict, flags⟩, ⟨kind, index, excess, sec, us, quality, generation⟩, speed, gross, count, temp,
    source⟩ := record_fields r
  have first {o : Nat} {v : List Byte} (c : Carries r.kindBytes o v) := h _ v (record_kind c)
  have second {o : Nat} {v : List Byte} (c : Carries r.overloadAndTimeBytes o v) := h _ v (record_overloadAndTime c)
  have third {o : Nat} {v : List Byte} (c : Carries r.measureBytes o v) := h _ v (record_measure c)
  refine ⟨first size, first number, first lane, first cls, first rule, first verdict, first flags, second kind, second index, second excess,
    second sec, second us, second quality, second generation, third speed, third gross, third count, third temp, third source,
    fun k a e => ?_⟩
  have axle {o : Nat} {v : List Byte} (c : Carries a.bytes o v) := h _ v (record_axle e c)
  obtain ⟨left, right, spacing, group, flags⟩ := axle_fields a
  exact ⟨(axle left).at (by omega), (axle right).at (by omega), (axle spacing).at (by omega), (axle group).at (by omega),
    (axle flags).at (by omega)⟩

/-- Among records back to back, the n-th begins where the ones before it end. -/
theorem records_record {o : Nat} {v : List Byte} {x : Record} (h : Carries x.bytes o v) : ∀ {rs : List Record} {n : Nat},
    rs[n]? = some x → Carries (rs.flatMap Record.bytes) (recordBytes (rs.take n) + o) v
  | [], _, e => by simp at e
  | r :: rest, 0, e => by
    obtain rfl : r = x := by simpa using e
    simpa [recordBytes] using h.append_left
  | r :: rest, n + 1, e => by
    have next := (records_record h (rs := rest) (n := n) (by simpa using e)).append_right (a := r.bytes)
    rw [List.flatMap_cons, List.take_succ_cons, recordBytes_cons]
    exact next.at (by rw [Record.bytes_length, Nat.add_assoc])

theorem recordsPayload_length (taken : List Record) (resume : Nat) :
    (recordsPayload taken resume).length = 5 + recordBytes taken := by
  have records : (taken.flatMap Record.bytes).length = recordBytes taken := by simp [List.length_flatMap, recordBytes]
  simp [recordsPayload, records]; omega

theorem recordsPayload_count (taken : List Record) (resume : Nat) : CarriesNat (recordsPayload taken resume) 0 1 taken.length := by
  simp [CarriesNat, recordsPayload]

theorem recordsPayload_resume (taken : List Record) (resume : Nat) : CarriesNat (recordsPayload taken resume) 1 4 resume := by
  simp [CarriesNat, recordsPayload, carries_skip]

theorem recordsPayload_record {taken : List Record} {n : Nat} {r : Record} (e : taken[n]? = some r) (resume : Nat) :
    RecordAt (recordsPayload taken resume) (5 + recordBytes (taken.take n)) r :=
  recordAt_of_carries fun _ _ h =>
    ((records_record h e).append_right (a := natBytes 1 taken.length ++ natBytes 4 resume)).at (by simp [Nat.add_assoc])

/-! ### The request -/

theorem actReadRecords_inRange {payload : List Byte} {s : State} (lo : 40 ≤ field payload 0 2) (hi : field payload 0 2 ≤ 1019) :
    actReadRecords payload s = .wait s := if_pos ⟨lo, hi⟩

theorem actReadRecords_outside {payload : List Byte} {s : State} (h : field payload 0 2 < 40 ∨ 1019 < field payload 0 2) :
    actReadRecords payload s = refuse .invalid s := if_neg (by omega)

/-- Settles O39: the reply is what the examination of the unread records gives, laid out record by record. -/
theorem readRecordsAnswersUnread : Obligations.ReadRecordsAnswersUnread := by
  refine ⟨fun s p dest payload key taken two lo hi read only => ?_, fun s p dest payload taken two outside read =>
    refusedWhenTaken rfl taken (exactly_iff.mpr two) read (actReadRecords_outside outside)⟩
  dsimp only
  set unread := s.rst.records.filter fun r => decide (s.rst.cursor.get p ≤ r.number)
  obtain ⟨k, le, reads, fits, ends⟩ := examine_spec (s.rst.filter.get p) unread (field payload 0 2)
  set passed := (unread.take k).filter (s.rst.filter.get p).accepts
  have acts : executeHeld p 6 payload (granted p dest 6 payload key s) = okWith (recordsPayload passed
      (((unread.take k).getLast?.map fun r => r.number + 1).getD (s.rst.cursor.get p))) (granted p dest 6 payload key s) := by
    have out : s.rst.readOut p (field payload 0 2) =
        (passed, (((unread.take k).getLast?.map fun r => r.number + 1).getD (s.rst.cursor.get p))) := by
      simp only [RecordStore.readOut, unreadRecords]
      rw [reads, Option.map_map]; rfl
    rw [show executeHeld p 6 payload (granted p dest 6 payload key s) = grantReadRecords p payload (granted p dest 6 payload key s) from rfl,
      grantReadRecords, granted_rst, out]
  obtain ⟨rst, answered⟩ := grantedWith_only (code := 6) acts
  obtain ⟨served, sst, frame⟩ := grantedWith_served (p := p) (dest := dest) (code := 6) (payload := payload) (key := key) (s := s)
    (.refl _ _)
  refine ⟨_, _, k, _, takenAndGranted rfl taken (exactly_iff.mpr two) read (actReadRecords_inRange lo hi) only rfl, waits, served, le,
    ⟨fits, ends, answered, recordsPayload_length _ _, recordsPayload_count _ _, recordsPayload_resume _ _,
      fun n r e => recordsPayload_record e _⟩, sst, fun x hx => ?_⟩
  by_cases store : x = .rst
  · subst store; exact rst
  · exact frame x (by simp_all)

end Sys2Proof.Machine
end

section
/-! RECORD_COMMIT: the records removed for a new one, OVERTAKEN, the cursors and the level conditions (R143, R145, R147, R154). -/

namespace Sys2Proof.Machine

/-! ### The level conditions (R147) -/

section levels
variable {c : Condition} {v : Bool} {q : SitePort}

theorem hasAny_setLevel_self : hasAny (q.setLevel c v).cond c.mask = v := by
  have nonzero : c.mask ≠ 0 := by cases c <;> decide
  have own : (q.cond ||| c.mask) &&& c.mask = c.mask := by ext i hi; simpa using Or.inr
  cases v with
  | true => simpa [SitePort.setLevel, hasAny, own] using nonzero
  | false => simp [SitePort.setLevel, hasAny, BitVec.and_assoc]

/-- A level leaves the other conditions' bits alone. -/
theorem setLevel_and {k : BitVec 10} (apart : c.mask &&& k = 0) : (q.setLevel c v).cond &&& k = q.cond &&& k := by
  cases v with
  | true => simp [SitePort.setLevel, BitVec.and_or_distrib_right, apart]
  | false =>
    ext i hi
    have bit : (c.mask[i] && k[i]) = false := by rw [← BitVec.getElem_and, apart]; simp
    simp only [SitePort.setLevel, Bool.false_eq_true, if_false, BitVec.getElem_and, BitVec.getElem_not]
    grind

theorem hasAny_setLevel_other {k : BitVec 10} (apart : c.mask &&& k = 0) :
    hasAny (q.setLevel c v).cond k = hasAny q.cond k := by rw [hasAny, setLevel_and apart, hasAny]

/-- A level moves no bit outside a set that holds its own. -/
theorem setLevel_or {k : BitVec 10} (within : c.mask ||| k = k) : (q.setLevel c v).cond ||| k = q.cond ||| k := by
  cases v with
  | true => rw [SitePort.setLevel, if_pos rfl, BitVec.or_assoc, within]
  | false =>
    ext i hi
    have bit : (c.mask[i] || k[i]) = k[i] := by rw [← BitVec.getElem_or, within]
    simp only [SitePort.setLevel, Bool.false_eq_true, if_false, BitVec.getElem_and, BitVec.getElem_or, BitVec.getElem_not]
    grind

end levels

theorem hasNew_iff (st : RecordStore) (p : Port) :
    st.hasNew p = true ↔ ∃ r ∈ unreadRecords st.records (st.cursor.get p), (st.filter.get p).accepts r = true := by
  rw [RecordStore.hasNew, List.any_eq_true]

theorem levelsAt_hold (st : RecordStore) (p : Port) (q : SitePort) : LevelsHold st p (levelsAt st p q) := by
  refine ⟨?_, ?_, ?_⟩
  · rw [levelsAt, hasAny_setLevel_other rfl, hasAny_setLevel_other rfl, hasAny_setLevel_self]; exact hasNew_iff st p
  · rw [levelsAt, hasAny_setLevel_other rfl, hasAny_setLevel_self, decide_eq_true_iff]; rfl
  · rw [levelsAt, hasAny_setLevel_self, decide_eq_true_iff]; rfl

theorem levelsAt_only (st : RecordStore) (p : Port) (q : SitePort) :
    levelsAt st p q = { q with cond := (levelsAt st p q).cond } := rfl

theorem levelsAt_or (st : RecordStore) (p : Port) (q : SitePort) : (levelsAt st p q).cond ||| 0x00E = q.cond ||| 0x00E := by
  rw [levelsAt, setLevel_or rfl, setLevel_or rfl, setLevel_or rfl]

/-! ### Room for a record (R143, R145) -/

/-- How many of the oldest records must go for a record of a size. -/
def removals (size : Nat) : List Record → Nat
  | [] => 0
  | r :: rest => if storeBytes < recordBytes (r :: rest) + size then removals size rest + 1 else 0

theorem removals_room {size : Nat} (fits : size ≤ storeBytes) : ∀ rs : List Record,
    recordBytes (rs.drop (removals size rs)) + size ≤ storeBytes
  | [] => by simpa [recordBytes] using fits
  | r :: rest => by
    unfold removals
    split
    · simpa using removals_room fits rest
    next enough => simpa using enough

theorem removals_least {size : Nat} : ∀ {rs : List Record} {m : Nat}, m < removals size rs → storeBytes < recordBytes (rs.drop m) + size
  | [], _, h => by simp [removals] at h
  | r :: rest, m, h => by
    unfold removals at h
    split at h
    next full =>
      cases m with
      | zero => exact full
      | succ m => exact removals_least (rs := rest) (by omega)
    · exact absurd h (Nat.not_lt_zero m)

/-- A port is overtaken by the removal of a record it has not released and whose filter it matches (R145). -/
def overtaken (st : RecordStore) (p : Port) (r : Record) : Bool :=
  decide (st.cursor.get p ≤ r.number) && (st.filter.get p).accepts r

/-- A condition latched where a test says so. -/
def SitePort.latchIf (b : Bool) (c : Condition) (q : SitePort) : SitePort := if b then q.latch c else q

theorem latchIf_latchIf (a b : Bool) (c : Condition) (q : SitePort) : (q.latchIf a c).latchIf b c = q.latchIf (a || b) c := by
  cases a <;> cases b <;> simp [SitePort.latchIf, SitePort.latch, BitVec.or_assoc]

theorem makeRoom_rst (size : Nat) : ∀ (rs : List Record) (s : State),
    (makeRoom size rs s).rst = { s.rst with records := rs.drop (removals size rs) }
  | [], s => rfl
  | r :: rest, s => by
    unfold makeRoom removals
    split
    · exact makeRoom_rst size rest (latchOvertaken r s)
    · rfl

theorem makeRoom_port (size : Nat) (p : Port) : ∀ (rs : List Record) (s : State), (makeRoom size rs s).sitePort p =
    (s.sitePort p).latchIf ((rs.take (removals size rs)).any (overtaken s.rst p)) .overtaken
  | [], s => rfl
  | r :: rest, s => by
    unfold makeRoom removals
    split
    · have first : (latchOvertaken r s).sitePort p = (s.sitePort p).latchIf (overtaken s.rst p r) .overtaken := by
        simp [latchOvertaken, SitePort.latchIf, overtaken]
      rw [makeRoom_port size p rest, first, latchIf_latchIf, List.take_succ_cons, List.any_cons]; rfl
    · rfl

/-! ### The commit (R143) -/

/-- The store after a record is committed. -/
def RecordStore.entered (r : Record) (queue : List Record) (st : RecordStore) : RecordStore :=
  let kept := st.records.drop (removals r.size st.records)
  { st with
    records := kept ++ [r], next := r.number + 1, queue := queue
    cursor := st.cursor.mapI fun _ c => max (((kept ++ [r]).head?.map Record.number).getD 0) c }

section commit
variable (r : Record) (queue : List Record) (s : State)

theorem commitRecord_rst : (commitRecord r queue s).rst = s.rst.entered r queue := by
  simp [commitRecord, reevaluateAll, makeRoom_rst, RecordStore.oldest, raisedCursor, RecordStore.entered]

theorem commitRecord_port (p : Port) : (commitRecord r queue s).sitePort p = levelsAt (commitRecord r queue s).rst p
    ((s.sitePort p).latchIf ((s.rst.records.take (removals r.size s.rst.records)).any (overtaken s.rst p)) .overtaken) := by
  rw [← makeRoom_port]
  simp [commitRecord, reevaluateAll]

end commit

theorem latchIf_only (b : Bool) (c : Condition) (q : SitePort) : q.latchIf b c = { q with cond := (q.latchIf b c).cond } := by
  cases b <;> rfl

theorem latchIf_cond (b : Bool) (c : Condition) (q : SitePort) : (q.latchIf b c).cond = q.cond ||| if b then c.mask else 0 := by
  cases b <;> simp [SitePort.latchIf, SitePort.latch]

/-- Settles O35: the records that go are `removals` of the list, and each port's conditions are first latched by their removal and then
have their levels worked out from the store with the new record in it. -/
theorem recordCommitAppends : Obligations.RecordCommitAppends := by
  intro s r rest queue next _ small
  have room : recordBytes (s.rst.records.drop (removals r.size s.rst.records)) + r.size ≤ 32768 :=
    removals_room (small.trans (by decide)) _
  have rst : (recordCommitGrant s).rst = s.rst.entered r rest := by
    rw [recordCommitGrant_next next queue]; exact commitRecord_rst r rest (beginGrant .recordCommit s)
  have port (p : Port) : (recordCommitGrant s).sitePort p = levelsAt (recordCommitGrant s).rst p
      ((s.sitePort p).latchIf ((s.rst.records.take (removals r.size s.rst.records)).any (overtaken s.rst p)) .overtaken) := by
    rw [recordCommitGrant_next next queue]; exact commitRecord_port r rest (beginGrant .recordCommit s) p
  have sea := commitGrant_sea r rest s
  rw [← recordCommitGrant_next next queue] at sea
  have records : (recordCommitGrant s).rst.records = s.rst.records.drop (removals r.size s.rst.records) ++ [r] := by rw [rst]; rfl
  refine ⟨_, removals r.size s.rst.records, rfl, records, ?_, fun m fewer => removals_least fewer, by rw [rst]; rfl, by rw [rst]; rfl,
    by rw [rst]; rfl, by rw [rst]; rfl, fun p => by rw [rst]; simp [RecordStore.entered], fun p => ⟨?_, ?_, ?_⟩, sea,
    recordCommitGrant_frame s⟩
  · rw [records]; simpa [recordBytes] using room
  · rw [port, levelsAt_only, latchIf_only]
  · rw [port, levelsAt_or, latchIf_cond, BitVec.or_assoc, BitVec.or_assoc, BitVec.or_comm _ 0x00E]; rfl
  · rw [port]; exact levelsAt_hold _ p _

end Sys2Proof.Machine
end

section
/-! Direct requests refused and requests to many not executed (R165, R166, R176, R177, R179, R183), the attention line with its two
requests (R168, R169), and RESTART with the start-up after its reply (R164, R172). -/

namespace Sys2Proof.Machine

/-! ### Direct requests refused (R166) -/

theorem startRunLength_iff {payload : List Byte} :
    startRunLength payload = true ↔ 2 ≤ payload.length ∧ payload.length = 2 + 2 * field payload 1 1 := by
  simp [startRunLength, exactly]

theorem holderOnly_refuses {s : State} {p : Port} (no : s.holdsToken p = false) (act : State → Action) :
    holderOnly p act s = refuse .notHolder s := by simp [holderOnly, no]

theorem actWriteSetting_notHolder {s : State} {p : Port} (no : s.holdsToken p = false) (payload : List Byte) :
    actWriteSetting p payload s = refuse .notHolder s := by
  cases he : s.sst.edit with
  | none => simp [actWriteSetting, he]
  | some e =>
    have other : e.holder ≠ p := by simpa [State.holdsToken, he] using no
    simp [actWriteSetting, he, other]

theorem knownCode_eq_false {code : Byte} (h : code.toNat = 0 ∨ 28 < code.toNat) : knownCode code = false := by
  simp only [knownCode, Bool.and_eq_false_iff, decide_eq_false_iff_not]
  omega

/-- A code the unit does not know is taken as any request is, with no length and no privilege to meet. -/
theorem exec_unknownRequest {code : Byte} (h : code.toNat = 0 ∨ 28 < code.toNat) (s : State) (p : Port) (dest : Byte)
    (payload : List Byte) : exec (.unknownRequest p dest code payload) s =
      .next (takeRequest false true needsNone (refuse .unknown) p dest code payload s) := by
  show Host.Outcome.next (unknownRequest p dest code payload s) = _
  rw [unknownRequest, knownCode_eq_false h]
  rfl

section refused
variable {s : State} {p : Port} {dest code : Byte} {payload : List Byte} {i : Instr} {g len : Bool} {needs : Privileges → Bool}
  {act : State → Action} {length : Prop}

/-- The first check of a direct request is its length (R166). -/
theorem takeRequest_wrongLength (taken : TakenDirect s p dest payload) (bad : len = false) :
    OnlyAnswered s (takeRequest g len needs act p dest code payload s) p dest code payload .invalid [] := by
  rw [takeRequest_direct taken, bad]
  exact onlyAnswered

/-- The second check is its privilege (R166). -/
theorem takeRequest_notAllowed (taken : TakenDirect s p dest payload) (long : len = true) (no : needs (s.may p) = false) :
    OnlyAnswered s (takeRequest g len needs act p dest code payload s) p dest code payload .denied [] := by
  rw [takeRequest_direct taken, long, no]
  exact onlyAnswered

/-- A request of a row that needs a privilege. -/
theorem refused_unlessAllowed (needs : Privileges → Bool) (request : exec i s = .next (takeRequest g len needs act p dest code payload s))
    (taken : TakenDirect s p dest payload) (long : len = true ↔ length) :
    (¬ length → ∃ t, exec i s = .next t ∧ OnlyAnswered s t p dest code payload .invalid []) ∧
      (length → needs (s.may p) = false → ∃ t, exec i s = .next t ∧ OnlyAnswered s t p dest code payload .denied []) :=
  ⟨fun bad => ⟨_, request, takeRequest_wrongLength taken (Bool.eq_false_iff.mpr (mt long.mp bad))⟩,
    fun good no => ⟨_, request, takeRequest_notAllowed taken (long.mpr good) no⟩⟩

/-- A request of a row that needs no privilege, but the edit token. -/
theorem refused_unlessHolder (request : exec i s = .next (takeRequest g len needsNone act p dest code payload s))
    (refuses : ∀ u : State, u.holdsToken p = false → act u = refuse .notHolder u) (taken : TakenDirect s p dest payload)
    (long : len = true ↔ length) :
    (¬ length → ∃ t, exec i s = .next t ∧ OnlyAnswered s t p dest code payload .invalid []) ∧
      (length → s.holdsToken p = false → ∃ t, exec i s = .next t ∧ OnlyAnswered s t p dest code payload .notHolder []) :=
  ⟨(refused_unlessAllowed needsNone request taken long).1, fun good no =>
    refusedWhenTaken request taken (long.mpr good) rfl (refuses _ (by rw [inHand_holds, no]))⟩

end refused

/-! ### Requests to many that are not executed (R165) -/

/-- A request to many is not executed: the port is back in LISTEN, with nothing else changed but, perhaps, the level of the
calibration-enable line. -/
def NotExecuted (i : Instr) (s : State) (p : Port) (key : Bool) : Prop :=
  ∃ t, exec i s = .next t ∧ t.port = s.port.set p ((s.sitePort p).listening (s.portSet p).rate) ∧
    (t.lines = s.lines ∨ t.lines = { s.lines with key := key }) ∧ AgreeOutside [.port, .lines] s t

section many
variable {s u : State} {p : Port} {dest code : Byte} {payload : List Byte} {key : Bool} {i : Instr} {len : Bool}
  {needs : Privileges → Bool} {act : State → Action}

theorem takeRequest_notToMany (takes : (s.sitePort p).takes = true) (fits : payload.length ≤ 1024)
    (many : s.addressee p dest = .broadcast ∨ s.addressee p dest = .group) :
    takeRequest false len needs act p dest code payload s = toListen p s := by
  unfold takeRequest
  rw [takes]
  rcases many with e | e <;> simp [e, Nat.not_lt.mpr fits]

theorem notExecuted (takes : (s.sitePort p).takes = true) (fits : payload.length ≤ 1024)
    (many : s.addressee p dest = .broadcast ∨ s.addressee p dest = .group)
    (request : exec i s = .next (takeRequest false len needs act p dest code payload s)) : NotExecuted i s p key := by
  rw [takeRequest_notToMany takes fits many] at request
  exact ⟨_, request, toListen_port p s, .inl rfl, (toListen_frame p s).mono (by decide)⟩

/-- DRIFT APPLY and DRIFT RESET bring the level of the calibration-enable line. -/
theorem notExecuted_withKey (takes : (s.sitePort p).takes = true) (fits : payload.length ≤ 1024)
    (many : s.addressee p dest = .broadcast ∨ s.addressee p dest = .group)
    (request : exec i s = .next (takeRequest false len needs act p dest code payload (s.withKey key))) : NotExecuted i s p key := by
  rw [takeRequest_notToMany (s := s.withKey key) takes fits many] at request
  exact ⟨_, request, toListen_port p (s.withKey key), .inr rfl,
    ((withKey_frame key s).mono (by decide)).trans ((toListen_frame p _).mono (by decide))⟩

end many

/-- Settles O50: the direct refusals row by row, then the requests to many. -/
theorem refusalsChangeNothing : Obligations.RefusalsChangeNothing := by
  refine ⟨fun s p dest payload key taken => ?_, fun s p dest code payload key i takes fits many which => ?_⟩
  · intro n refused row held m
    have long {k : Nat} : exactly k payload = true ↔ n = k := exactly_iff
    have holder {act : State → Action} (u : State) (no : u.holdsToken p = false) := holderOnly_refuses no act
    exact ⟨refused_unlessAllowed needsNone rfl taken long, refused_unlessAllowed Privileges.read rfl taken long,
      refused_unlessAllowed needsNone rfl taken long, refused_unlessAllowed needsNone rfl taken long,
      refused_unlessAllowed Privileges.read rfl taken long, refused_unlessAllowed Privileges.read rfl taken long,
      refused_unlessAllowed Privileges.read rfl taken long, refused_unlessAllowed Privileges.read rfl taken long,
      refused_unlessAllowed Privileges.read rfl taken long, refused_unlessAllowed Privileges.time rfl taken long,
      refused_unlessAllowed Privileges.time rfl taken long, refused_unlessAllowed Privileges.lane rfl taken long,
      refused_unlessAllowed Privileges.edit rfl taken long, refused_unlessHolder rfl holder taken long,
      refused_unlessAllowed Privileges.read rfl taken long,
      refused_unlessHolder rfl (fun _ no => actWriteSetting_notHolder no payload) taken .rfl, refused_unlessHolder rfl holder taken long,
      refused_unlessHolder rfl holder taken long, refused_unlessHolder rfl holder taken startRunLength_iff,
      refused_unlessHolder rfl holder taken long, refused_unlessHolder rfl holder taken long,
      refused_unlessAllowed Privileges.read rfl taken long, refused_unlessHolder rfl holder taken long,
      refused_unlessHolder rfl holder taken long, refused_unlessAllowed Privileges.read rfl taken long,
      refused_unlessAllowed Privileges.restart rfl taken long,
      fun bad =>
        have wrong : exactly 1 payload = false := Bool.eq_false_iff.mpr (mt long.mp bad)
        ⟨⟨_, rfl, takeRequest_wrongLength (s := s.withKey key) taken wrong⟩,
          ⟨_, rfl, takeRequest_wrongLength (s := s.withKey key) taken wrong⟩⟩,
      fun code unknown => refusedWhenTaken (exec_unknownRequest unknown s p dest payload) taken rfl rfl rfl⟩
  · rcases which with row | ⟨unknown, rfl⟩
    · have plain {j : Instr} {len : Bool} {needs : Privileges → Bool} {act : State → Action} {code : Byte}
          (request : exec j s = .next (takeRequest false len needs act p dest code payload s)) : NotExecuted j s p key :=
        notExecuted takes fits many request
      have keyed {j : Instr} {len : Bool} {needs : Privileges → Bool} {act : State → Action} {code : Byte}
          (request : exec j s = .next (takeRequest false len needs act p dest code payload (s.withKey key))) :
          NotExecuted j s p key := notExecuted_withKey takes fits many request
      revert i
      simp only [List.forall_mem_cons, List.not_mem_nil, false_implies, implies_true, and_true]
      exact ⟨plain rfl, plain rfl, plain rfl, plain rfl, plain rfl, plain rfl, plain rfl, plain rfl, plain rfl, plain rfl, plain rfl,
        plain rfl, plain rfl, plain rfl, plain rfl, plain rfl, plain rfl, plain rfl, plain rfl, plain rfl, plain rfl, plain rfl,
        plain rfl, keyed rfl, keyed rfl, plain rfl⟩
    · exact notExecuted takes fits many (exec_unknownRequest unknown s p dest payload)

/-! ### The attention line and its requests (R168, R169) -/

theorem hasAny_iff_getLsbD {w : Nat} {f b : BitVec w} :
    hasAny f b = true ↔ ∃ k, k < w ∧ f.getLsbD k = true ∧ b.getLsbD k = true := by
  rw [hasAny, bne_iff_ne, ne_eq, show (0 : BitVec w) = 0#w from rfl, BitVec.zero_iff_eq_false]
  simp only [BitVec.getLsbD_and, not_forall, Bool.not_eq_false, Bool.and_eq_true]
  exact ⟨fun ⟨k, hf, hb⟩ => ⟨k, BitVec.lt_of_getLsbD hf, hf, hb⟩, fun ⟨k, _, hf, hb⟩ => ⟨k, hf, hb⟩⟩

theorem conditionSet_pair (a b : Byte) : conditionSet [a, b] = BitVec.ofNat 10 (a.toNat * 256 + b.toNat) := by
  simp [conditionSet, field, bytesNat]

theorem hasAny_siteAlarm (set : BitVec 10) : hasAny set Condition.siteAlarm.mask = set.getLsbD 8 := by
  have bits : ∀ k, k < 10 → (Condition.siteAlarm.mask.getLsbD k = true ↔ k = 8) := by decide
  rw [Bool.eq_iff_iff, hasAny_iff_getLsbD]
  exact ⟨fun ⟨k, hk, hs, hm⟩ => (bits k hk).mp hm ▸ hs, fun h => ⟨8, by decide, h, by decide⟩⟩

/-- What CLEAR ATTENTION clears, with the set as the bits name it. -/
theorem clearConditions_eq (set : BitVec 10) (q : SitePort) : q.clearConditions set =
    { q with cond := q.cond &&& ~~~(set &&& 0x3F1), details := if set.getLsbD 8 then 0 else q.details } := by
  simp [SitePort.clearConditions, latchedConditions, hasAny_siteAlarm]

/-- A direct request whose rule replaces figures of its own port and is answered OK: figures that the request in hand does not touch. -/
theorem answered_withPort {s : State} {p : Port} {dest code : Byte} {payload : List Byte} {g len : Bool} {needs : Privileges → Bool}
    {act : State → Action} (taken : TakenDirect s p dest payload) (long : len = true) (may : needs (s.may p) = true) {q : SitePort}
    (acts : act (inHand p dest code payload s) = okay ((inHand p dest code payload s).withPort p (WaitingPort q dest code payload))) :
    let t := takeRequest g len needs act p dest code payload s
    t.port = s.port.set p (AnsweredPort q dest code payload .ok []) ∧ t.sst = LeaseRestarted p s.sst ∧
      AgreeOutside [.port, .sst] s t := by
  intro t
  have answered : t = settleAction p dest (okay ((inHand p dest code payload s).withPort p (WaitingPort q dest code payload))) := by
    rw [← acts]; exact takeRequest_passes taken long may g act code
  rw [answered]
  refine ⟨?_, inHand_sst p dest code payload s, ?_⟩
  · simp [settleAction, okay, enterReply, WaitingPort, AnsweredPort]
  · exact ((inHand_frame p dest code payload s).trans ((withPort_frame p _ _).mono (by decide))).trans
      ((settle_frame p dest _ _ _).mono (by decide))

/-- Settles O51. -/
theorem attentionClearedAndEnabled : Obligations.AttentionClearedAndEnabled := by
  refine ⟨fun q => hasAny_iff_getLsbD, fun s p dest a b taken => ?_⟩
  refine ⟨⟨_, rfl, answered_withPort taken rfl rfl ?_⟩, ⟨_, rfl, answered_withPort taken rfl rfl ?_⟩⟩
  · rw [actClearAttention, conditionSet_pair, clearConditions_eq, State.sitePort_eq, inHand_port, PerPort.get_set_self]
    rfl
  · rw [actSetEnables, conditionSet_pair, State.sitePort_eq, inHand_port, PerPort.get_set_self]
    rfl

/-! ### RESTART and the end of its reply (R164, R172) -/

theorem programming_iff {s : State} : s.programming = true ↔ s.sst.prog ≠ .idle := by simp [State.programming]

theorem actRestart_busy {s : State} (h : s.sst.prog ≠ .idle) (p : Port) : actRestart p s = refuse .busy s :=
  if_pos (programming_iff.mpr h)

theorem actRestart_taken {s : State} (h : s.sst.prog = .idle) (p : Port) :
    actRestart p s = okay (s.withPort p { s.sitePort p with restarting := true }) :=
  if_neg fun busy => programming_iff.mp busy h

section reply
variable {s : State} {p : Port}

theorem replySent_restart (reply : (s.sitePort p).state = .reply) (driving : (s.sitePort p).driving = true)
    (restarting : (s.sitePort p).restarting = true) : replySent p s = startUp .restartRequest s :=
  (if_pos ⟨reply, driving⟩).trans (if_pos restarting)

theorem replySent_listen (reply : (s.sitePort p).state = .reply) (driving : (s.sitePort p).driving = true)
    (other : (s.sitePort p).restarting = false) : replySent p s = toListen p s :=
  (if_pos ⟨reply, driving⟩).trans (if_neg (ne_true_of_eq_false other))

end reply

/-- Settles O52: the request, then the end of its reply and of any other. -/
theorem restartFollowsItsReply : Obligations.RestartFollowsItsReply := by
  refine ⟨fun s p dest taken may => ⟨_, rfl, fun busy => ?_, fun idle => ?_⟩,
    fun s p reply driving => ⟨fun again => ?_, fun other => ?_⟩⟩
  · rw [takeRequest_passes (len := exactly 0 []) taken rfl may, actRestart_busy (by rw [inHand_sst]; exact busy)]
    exact onlyAnswered
  · refine answered_withPort taken rfl may ?_
    rw [actRestart_taken (by rw [inHand_sst]; exact idle), State.sitePort_eq, inHand_port, PerPort.get_set_self]
    rfl
  · have starts : exec (.replySent p) s = exec (.startUp .restartRequest) s :=
      congrArg Host.Outcome.next (replySent_restart reply driving again)
    exact ⟨starts, _, starts, rfl⟩
  · refine ⟨_, congrArg Host.Outcome.next (replySent_listen reply driving other), ?_⟩
    have own : (toListen p s).sitePort p = (s.sitePort p).listening (s.portSet p).rate := PerPort.get_set_self _ _ _
    exact ⟨by rw [own]; rfl, by rw [own]; rfl, by rw [own]; rfl, by rw [own]; rfl,
      fun q apart => PerPort.get_set_ne _ _ apart, toListen_frame p s⟩

end Sys2Proof.Machine
end

section
/-! Frames and bytes on the line: frames that go wrong, bytes outside a frame, whom a destination names, and the frame of every request
(R159 to R165, R183). -/

namespace Sys2Proof.Laws

open RequestOperands in
/-- Every command's operands, constructor by constructor. -/
theorem requestOperands (i : Instr) : RequestOperands.Statement i := by
  cases i
  exacts [startUp _, siteTimeAdvance, scanStrobe _, holdoverTimerExpiry, timeMark _ _ _, timeMarkExpiry, timePulse, timeSet _ _ _,
    linkArrival _ _, linkSilence, acquireComplete _, recoverComplete _, pulseEnd _, pulseAbandoned _, halfWindowEnd _, upstreamExpiry _,
    loopChange _, loopFaultEntry _, laneMode _ _ _, closeTimerExpiry _, triggerPulseEnd _, probeReading _, probeStale _, laneTempLost _,
    readTemperatures _ _ _, driftApplicationTaken _, driftApply _ _ _ _, driftReset _ _ _ _, readDrift _ _ _, startRun _ _ _,
    acceptPass _ _ _, rejectPass _ _ _, runPendingTimeout, runArmedTimeout, readRun _ _ _, applyRun _ _ _, endRun _ _ _, recordCommit,
    portGrantExecute _, readRecords _ _ _, release _ _ _, setFilter _ _ _, seek _ _ _, readStatus _ _ _, identify _ _ _,
    clearAttention _ _ _, setAttentionEnables _ _ _, restart _ _ _, unknownRequest _ _ _ _, frameCrcError _ _, otherUnitReply _ _ _ _,
    frameNotAddressed _ _ _ _, framingError _ _ _, frameGapTimeout _ _, overrun _ _, portArmed _, replyStart _, replySent _,
    claimEdit _ _ _, releaseEdit _ _ _, editTokenExpiry, writeSetting _ _ _, discard _ _ _, readSetting _ _ _, commit _ _ _,
    programmingStep, programmingWriteDone _, listenByteNotArmed _ _]

end Sys2Proof.Laws

namespace Sys2Proof.Machine

/-! ### Frames that go wrong (R161, R162) -/

theorem State.withPort_withPort (s : State) (p : Port) (x y : SitePort) : (s.withPort p x).withPort p y = s.withPort p y := by
  simp [State.withPort]

theorem State.sitePort_withPort (s : State) (p : Port) (x : SitePort) : (s.withPort p x).sitePort p = x := PerPort.get_set_self _ _ _

/-- A command whose work is to replace the figures of one port. -/
theorem completes_withPort {i : Instr} {s u : State} {p : Port} {q : SitePort} (runs : exec i s = .next u) (works : u = s.withPort p q) :
    ∃ t, exec i s = .next t ∧ t.port = s.port.set p q ∧ AgreeOutside [.port] s t := by
  rw [works] at runs
  exact ⟨_, runs, rfl, withPort_frame p q s⟩

theorem framingDrop_eq (p : Port) (s : State) :
    let listening := (s.sitePort p).listening (s.portSet p).rate
    framingDrop p s = s.withPort p { listening with
      framingErrors := min 65535 (listening.framingErrors + 1), cond := listening.cond ||| 0x200 } := by
  simp only [framingDrop, toListen, State.sitePort_withPort, State.withPort_withPort]
  rfl

section wrong
variable {s : State} {p : Port}

theorem frameCrcError_drops {frame : List Byte} (takes : (s.sitePort p).takes = true) (whole : wholeFrame frame = true)
    (disagrees : crcAgrees frame = false) :
    let listening := (s.sitePort p).listening (s.portSet p).rate
    frameCrcError p frame s = s.withPort p { listening with
      crcErrors := min 65535 (listening.crcErrors + 1), cond := listening.cond ||| 0x200 } := by
  simp only [frameCrcError, whole, disagrees, takes, toListen, State.sitePort_withPort, State.withPort_withPort]
  rfl

theorem framingError_drops {bytes : List Byte} {lowStop : Bool} (takes : (s.sitePort p).takes = true)
    (wf : (Instr.framingError p bytes lowStop).wf = true) : framingError p bytes lowStop s = framingDrop p s := by
  have ends : (bytes.isEmpty || (!lowStop && !(bytes.length == 4 && decide (1024 < frameLength bytes)))) = false := by
    simpa only [Instr.wf, Bool.and_eq_true, Bool.not_eq_true', Bool.or_eq_true, Bool.or_eq_false_iff, Bool.and_eq_false_iff,
      Bool.not_eq_false'] using wf
  rw [framingError, ends, takes]
  rfl

theorem frameGapTimeout_drops {bytes : List Byte} (takes : (s.sitePort p).takes = true) (cut : unfinished bytes = true) :
    let listening := (s.sitePort p).listening (s.portSet p).rate
    frameGapTimeout p bytes s = s.withPort p { listening with
      framingErrors := min 65535 (listening.framingErrors + 1), cond := listening.cond ||| 0x200, idle := 21 } := by
  simp only [frameGapTimeout, cut, takes, framingDrop_eq, State.sitePort_withPort, State.withPort_withPort]
  rfl

end wrong

/-- Settles O53. -/
theorem badFramesAreCounted : Obligations.BadFramesAreCounted := by
  intro s p takes listening
  exact ⟨fun frame whole disagrees => completes_withPort rfl (frameCrcError_drops takes whole disagrees),
    fun bytes lowStop wf => completes_withPort rfl ((framingError_drops takes wf).trans (framingDrop_eq p s)),
    fun bytes cut => completes_withPort rfl (frameGapTimeout_drops takes cut)⟩

/-! ### Bytes outside a frame, and the reply driven (R160, R163, R164) -/

section line
variable {s : State} {p : Port}

theorem byteNotArmed_restarts (listens : (s.sitePort p).state = .listen) (early : (s.sitePort p).idle < 20) :
    byteNotArmed p s = s.withPort p { s.sitePort p with idle := 0, bitPhase := 0 } := if_pos ⟨listens, early⟩

theorem holds_iff {q : SitePort} : q.holds = true ↔ q.state = .execute ∨ (q.state = .reply ∧ q.driving = false) := by
  simp [SitePort.holds]

theorem overrun_counts (held : (s.sitePort p).state = .execute ∨ ((s.sitePort p).state = .reply ∧ (s.sitePort p).driving = false)) :
    overrun p s = s.withPort p { s.sitePort p with
      overruns := min 65535 ((s.sitePort p).overruns + 1), idle := 0, bitPhase := 0, cond := (s.sitePort p).cond ||| 0x200 } := by
  rw [overrun, if_pos (holds_iff.mpr held), offLine, SitePort.offLine, if_pos (holds_iff.mpr held)]
  rfl

theorem portArmed_arms (early : (s.sitePort p).idle < 20) : portArmed p s = s.withPort p { s.sitePort p with idle := 20 } := by
  rw [portArmed, armedBits, Nat.max_eq_left early.le]

theorem replyStart_drives (reply : (s.sitePort p).state = .reply) (quiet : (s.sitePort p).driving = false) :
    replyStart p s = s.withPort p { s.sitePort p with driving := true, sentBits := 0, bitPhase := 0 } := if_pos ⟨reply, quiet⟩

/-! ### Frames for no one here (R162, R165) -/

theorem getLsbD_seven {b : Byte} : b.getLsbD 7 = true ↔ 128 ≤ b.toNat := by
  have := b.isLt
  rw [← BitVec.testBit_toNat, Nat.testBit_eq_decide_div_mod_eq, decide_eq_true_iff]
  omega

/-- Under a clear bit 7. -/
theorem getLsbD_six {b : Byte} (low : b.getLsbD 7 = false) : b.getLsbD 6 = true ↔ 64 ≤ b.toNat := by
  have : ¬ 128 ≤ b.toNat := fun h => ne_true_of_eq_false low (getLsbD_seven.mpr h)
  rw [← BitVec.testBit_toNat, Nat.testBit_eq_decide_div_mod_eq, decide_eq_true_iff]
  omega

theorem otherUnitReply_ignored {first : Byte} {payload : List Byte} (takes : (s.sitePort p).takes = true) (fits : payload.length ≤ 1024)
    (mark : 128 ≤ first.toNat) : otherUnitReply p first payload s = toListen p s := by
  rw [otherUnitReply, getLsbD_seven.mpr mark, decide_eq_false (Nat.not_lt.mpr fits), takes]
  rfl

theorem frameNotAddressed_ignored {first : Byte} {payload : List Byte} (takes : (s.sitePort p).takes = true)
    (fits : payload.length ≤ 1024) (request : first.toNat < 128) (noOne : s.addressee p first = .noOne) :
    frameNotAddressed p first payload s = toListen p s := by
  have unmarked : first.getLsbD 7 = false := Bool.eq_false_iff.mpr (mt getLsbD_seven.mp (Nat.not_le.mpr request))
  rw [frameNotAddressed, unmarked, decide_eq_false (Nat.not_lt.mpr fits), takes, if_pos noOne]
  rfl

end line

/-! ### Whom a destination names (R165) -/

/-- Two numbers agree under a mask exactly when they agree in every bit of it. -/
theorem masked_eq_iff {n a m : Nat} : n &&& m = a &&& m ↔ ∀ k, m.testBit k = true → n.testBit k = a.testBit k := by
  refine ⟨fun h k hk => ?_, fun h => Nat.eq_of_testBit_eq fun k => ?_⟩
  · simpa [Nat.testBit_and, hk] using congrArg (·.testBit k) h
  · cases hk : m.testBit k
    · simp [Nat.testBit_and, hk]
    · simp [Nat.testBit_and, hk, h k hk]

/-- Settles O54. -/
theorem quietLineEvents : Obligations.QuietLineEvents := by
  refine ⟨fun s p b => ?_, fun s p first second payload takes fits => ?_, fun s p dest low => ?_⟩
  · exact ⟨fun listens early => completes_withPort rfl (byteNotArmed_restarts listens early),
      fun held => completes_withPort rfl (overrun_counts held),
      fun early => completes_withPort rfl (portArmed_arms early),
      fun reply quiet => completes_withPort rfl (replyStart_drives reply quiet)⟩
  · exact ⟨fun mark => completes_withPort rfl (otherUnitReply_ignored takes fits mark),
      fun request noOne => completes_withPort rfl (frameNotAddressed_ignored takes fits request noOne)⟩
  · intro n unit toAll toGroup
    have group : toGroup ↔ n ≠ 63 ∧ (s.portSet p).groupEnable = true ∧
        n &&& s.site.groupMask = s.site.groupAddress &&& s.site.groupMask := by rw [masked_eq_iff]
    refine ⟨fun high => if_pos ((getLsbD_six low).mp high), fun valid => ?_⟩
    have small : ¬ 64 ≤ n := mt (getLsbD_six low).mpr (ne_true_of_eq_false valid)
    have matched : s.addressee p dest = if unit then .direct else if toAll then .broadcast else
        if n ≠ 63 ∧ (s.portSet p).groupEnable = true ∧ n &&& s.site.groupMask = s.site.groupAddress &&& s.site.groupMask then .group
        else .noOne := if_neg small
    rw [matched]
    exact ⟨fun h => if_pos h, fun h k => (if_neg h).trans (if_pos k), fun h k =>
        (if_neg h).trans ((if_neg fun all => (group.mp k).1 all.1).trans (if_pos (group.mp k))),
      fun h k j => (if_neg h).trans ((if_neg k).trans (if_neg (mt group.mpr j)))⟩

/-! ### The frame of a request (R159, R183) -/

theorem requestOk_iff {dest : Byte} {payload : List Byte} :
    requestOk dest payload = true ↔ dest.getLsbD 7 = false ∧ payload.length ≤ 1024 := by
  rw [requestOk, Bool.and_eq_true, Bool.not_eq_true', decide_eq_true_iff]

/-- Settles O55: a request's operands are such as its frame may hold, and that frame is a built one. -/
theorem requestFramesAreWhole : Obligations.RequestFramesAreWhole := by
  intro i dest code payload wf isRequest frame
  obtain ⟨unmarked, fits⟩ := requestOk_iff.mp (Laws.requestOperands i dest code payload wf isRequest)
  exact ⟨wholeFrame_buildFrame dest code payload fits, crcAgrees_buildFrame dest code payload, rfl, rfl,
    framePayload_buildFrame dest code payload (by omega), unmarked⟩

end Sys2Proof.Machine
end
